-- ==== Sys2Proof/Word.lean ====
section
/-! DEFINITION. The widths the block works with (spec rule R7): bytes, the 16-bit checksum value, and
the 32-bit fields, operand words and results. -/

namespace Sys2Proof

/-- One byte of a buffer, of a payload or of the request word's `sub` and `op` fields (R7, R80). -/
abbrev Byte := BitVec 8

/-- A checksum value, the width of the accumulator `crc` (R22, R100). -/
abbrev Half := BitVec 16

/-- A 32-bit field, operand word or result (R7). -/
abbrev Word := BitVec 32

end Sys2Proof
end

