-- ==== Sys2Proof/Config.lean ====
section
/-! DEFINITION. The block's parameters (spec rule R6) and the values the spec does not state. -/

namespace Sys2Proof

/-- The OPEN parameters of R6, fixed for the lifetime of a block (R192). The model takes them as
data: State carries one `Config`, no operation changes it, and a statement about every state is a
statement about every parameter value (log 1). -/
structure Config where
  /-- `RX_BUF_BYTES`: the capacity of the receive buffer, a natural number (R6). -/
  rxBufBytes : Nat
  /-- `TX_MAX_PAYLOAD`: the largest Set payload; `none` is the spec's `unbounded` (R6, C6). -/
  txMaxPayload : Option Nat
  deriving DecidableEq, Repr

/-- The parameter values of `State.reset`: those under which section 3 of 95_test_vectors.md starts
its programs. DESIGN CHOICE (log 1). -/
def Config.standard : Config := { rxBufBytes := 64, txMaxPayload := none }

/-- `MAX_SENSORS`: sensors per unit (R6). Informative: no operation checks it (D24). -/
def Config.maxSensors : Nat := 16

/-- `MAX_SOURCES`: sources per unit (R6). Informative: no operation checks it (D24). -/
def Config.maxSources : Nat := 4

/-- FREE VALUE (log 2). The 32-bit `value` of TX_SERIALIZE's response when the frame length does not
fit in 32 bits: R111 responds with `tx_len`, which can reach `2^32 + 7`, and R84 makes `value` 32 bits
wide; the spec states no result there. -/
opaque Config.serializeLengthBeyondWord : Nat → Word

/-- FREE VALUE (log 2). The 32-bit `value` of TX_LENGTH's response when `tx_len` does not fit in
32 bits (R112, R84); the spec states no result there. -/
opaque Config.reportedLengthBeyondWord : Nat → Word

end Sys2Proof
end

