-- ==== Sys2Proof/Syntax.lean ====
section
/-! DEFINITION. What the host can put to the block: requests (R80) and the other interactions of
R187 and R190, and the operations themselves, one constructor per row of spec/opcode_table.json. -/

namespace Sys2Proof

/-- A request (R80): the request word, the operand words and the byte block. -/
structure Request where
  word  : Word
  words : List Word
  block : List Byte
  deriving DecidableEq, Repr

/-- One interaction of the host with the block (R187, R190). -/
inductive Input where
  /-- A request of R80, answered by one response. -/
  | request (r : Request)
  /-- A received buffer as the transport delivers it, whole (R4, R71). It reaches the receive buffer
  as RX_LOAD would carry it (log 4). -/
  | frame (bs : List Byte)
  /-- The reset event (R190). -/
  | reset
  /-- The host reads `n` bytes of RX from offset `off`, inside a slice an earlier response gave it
  (R46, R187). -/
  | readRx (off n : Nat)
  /-- The host reads `n` bytes of TX from offset `off` (R32, R187). -/
  | readTx (off n : Nat)
  deriving DecidableEq, Repr

/-- The operations of R82 in the table's order, and the two wire-frame rows of R61. -/
inductive Instr where
  -- 16-bit checksum generator
  | crcClear
  | crcByte (b : Byte)
  | crcRead
  -- command payload marshaler; `payload` is `none` for `sub = 0` (R81, D30)
  | txBuild (dev cmd act arg1 arg2 : Word) (payload : Option (List Byte))
  | txSerialize
  | txLength
  -- frame discriminator and frame operations
  | rxLoad (bs : List Byte)
  | rxRelease
  | rxClassify
  | rxSize
  | rxComplete
  | rxVerify
  -- command accessors
  | cmdCommand
  | cmdAction
  | cmdDeviceId
  | cmdIsAck
  | cmdIsNak
  | cmdPayload
  -- telemetry accessors
  | tlmDeviceId
  | tlmFrameCounter
  | tlmSensorCount
  | tlmPayload
  | tlmSensorRecord (index : Word)
  -- sensor-record view
  | srInfo (index : Word)
  | srSensorNumber (index : Word)
  | srIsVirtual (index : Word)
  | srPositionUnits (index : Word)
  | srOrientationUnits (index : Word)
  | srButton0 (index : Word)
  | srButton1 (index : Word)
  | srDistortionLevel (index : Word)
  | srAuxInput (index : Word)
  | srPosition (index : Word) (k : Byte)
  | srOrientation (index : Word) (k : Byte)
  -- wire frames: the bytes that follow the four preamble bytes (R60, R61)
  | frameCommand (rest : List Byte)
  | frameTelemetry (rest : List Byte)
  deriving DecidableEq, Repr

/-- The operations of R82: the rows that are requests. -/
inductive OpCode where
  | crcClear | crcByte | crcRead
  | txBuild | txSerialize | txLength
  | rxLoad | rxRelease | rxClassify | rxSize | rxComplete | rxVerify
  | cmdCommand | cmdAction | cmdDeviceId | cmdIsAck | cmdIsNak | cmdPayload
  | tlmDeviceId | tlmFrameCounter | tlmSensorCount | tlmPayload | tlmSensorRecord
  | srInfo | srSensorNumber | srIsVirtual | srPositionUnits | srOrientationUnits
  | srButton0 | srButton1 | srDistortionLevel | srAuxInput | srPosition | srOrientation
  deriving DecidableEq, Repr

/-- The request formats of R81. -/
inductive Format where
  | n | b | i | ik | bld | ld
  deriving DecidableEq, Repr

/-- The action names of R68. -/
inductive ActionCode where
  | set | get | reset | ack | nak
  deriving DecidableEq, Repr

/-- The command names of R69, in ordinal order. -/
inductive CommandCode where
  | hemisphere | filter | tipOffset | increment | boresight | sensorWhoAmI | framerate | units
  | sourceRotation | syncMode | stationMap | stylus | seuId | dualOutput | serialConfig
  | blockConfig | frameCount | bit | singlePno | continuousPno | whoAmI | initialize_ | persist
  | enableMap | fttMode | mapStatus | sensorBlockConfig | sourceConfig | predFilterConfig
  | predFilterExt | sourceSelect | sensorOrigin | sensorVirtual
  deriving DecidableEq, Repr

/-- The position-unit names of R70. -/
inductive PositionUnits where
  | inch | foot | centimeter | meter
  deriving DecidableEq, Repr

/-- The orientation-unit names of R70; the code 3 has none. -/
inductive OrientationUnits where
  | eulerDegree | eulerRadian | quaternion
  deriving DecidableEq, Repr

/-- A `cmd` or `act` operand of the assembler: a name or a number (R86). -/
inductive CodeOperand (α : Type) where
  | name (c : α)
  | number (w : Word)
  deriving DecidableEq, Repr

/-- One line of assembler: an operation of R86 or a pseudo-operation of R87. -/
inductive AsmLine where
  /-- An operation written with all its operands (R86). -/
  | op (i : Instr)
  /-- `TX_BUILD dev, cmd, act [, arg1 [, arg2]] [, payload]` (R86, R87). -/
  | txBuild (dev : Word) (cmd : CodeOperand CommandCode) (act : CodeOperand ActionCode)
      (arg1 arg2 : Option Word) (payload : Option (List Byte))
  /-- `CHECKSUM [b0 ... bn-1]` (R87). -/
  | checksum (bs : List Byte)
  /-- `SEND dev, cmd, act, arg1, arg2 [, payload]` (R87). -/
  | send (dev : Word) (cmd : CodeOperand CommandCode) (act : CodeOperand ActionCode)
      (arg1 arg2 : Word) (payload : Option (List Byte))
  /-- `RX_EMPTY` (R87). -/
  | rxEmpty
  deriving DecidableEq, Repr

end Sys2Proof
end

