-- ==== Sys2Proof/WellFormed.lean ====
section
/-! DEFINITION. Which terms of `Instr` a request (or a wire frame) can spell: the bounds of R81, R82
and R85 that the types do not already carry. -/

namespace Sys2Proof

/-- A byte count travels in one operand word (`plen = w5`, `n = w0`, R81), so it is below `2^32`. -/
def Instr.countFits (n : Nat) : Bool := n < 2 ^ 32

/-- The operations a request can spell. The component number of SR_POSITION is at most 2 and that of
SR_ORIENTATION at most 3 (R82); a payload and a loaded buffer have a byte count of one operand word
(R81); a wire frame with its four preamble bytes is no longer than RX_LOAD can carry (R120). -/
def WellFormed : Instr → Bool
  | .crcClear => true
  | .crcByte _ => true
  | .crcRead => true
  | .txBuild _ _ _ _ _ none => true
  | .txBuild _ _ _ _ _ (some pl) => Instr.countFits pl.length
  | .txSerialize => true
  | .txLength => true
  | .rxLoad bs => Instr.countFits bs.length
  | .rxRelease => true
  | .rxClassify => true
  | .rxSize => true
  | .rxComplete => true
  | .rxVerify => true
  | .cmdCommand => true
  | .cmdAction => true
  | .cmdDeviceId => true
  | .cmdIsAck => true
  | .cmdIsNak => true
  | .cmdPayload => true
  | .tlmDeviceId => true
  | .tlmFrameCounter => true
  | .tlmSensorCount => true
  | .tlmPayload => true
  | .tlmSensorRecord _ => true
  | .srInfo _ => true
  | .srSensorNumber _ => true
  | .srIsVirtual _ => true
  | .srPositionUnits _ => true
  | .srOrientationUnits _ => true
  | .srButton0 _ => true
  | .srButton1 _ => true
  | .srDistortionLevel _ => true
  | .srAuxInput _ => true
  | .srPosition _ k => k.toNat ≤ 2
  | .srOrientation _ k => k.toNat ≤ 3
  | .frameCommand rest => Instr.countFits (4 + rest.length)
  | .frameTelemetry rest => Instr.countFits (4 + rest.length)

end Sys2Proof
end

