-- ==== Sys2Proof/Decode.lean ====
section
/-! DEFINITION. Byte order (R42, R43), the total decoder of requests (R80 to R85) and of wire frames
(R60, R61), the encoder written from the same tables, and the code tables of R68 to R70. -/

namespace Sys2Proof

/-! ### Byte order -/

/-- The little-endian value of four bytes, the byte at the lowest offset first (R43). -/
def leWord (b0 b1 b2 b3 : Byte) : Word :=
  BitVec.ofNat 32 (b0.toNat + 2 ^ 8 * b1.toNat + 2 ^ 16 * b2.toNat + 2 ^ 24 * b3.toNat)

/-- `LE32(v)`: the bytes `v[7:0] v[15:8] v[23:16] v[31:24]` (R10). -/
def le32 (v : Word) : List Byte :=
  [v.extractLsb' 0 8, v.extractLsb' 8 8, v.extractLsb' 16 8, v.extractLsb' 24 8]

/-- The `n` low-order bytes of a natural number, least significant first. -/
def leBytes : Nat → Nat → List Byte
  | 0, _ => []
  | n + 1, v => BitVec.ofNat 8 v :: leBytes n (v / 256)

/-! ### Request words (R80) -/

/-- `op = word[7:0]` (R80). -/
def Request.op (r : Request) : Byte := r.word.extractLsb' 0 8

/-- `sub = word[15:8]` (R80). -/
def Request.sub (r : Request) : Byte := r.word.extractLsb' 8 8

/-- `rsv = word[31:16]` (R80). -/
def Request.rsv (r : Request) : Half := r.word.extractLsb' 16 16

/-- The request word of an operation code and a `sub`, with `rsv = 0` (R80). -/
def requestWord (op sub : Byte) : Word := BitVec.ofNat 32 (op.toNat + 256 * sub.toNat)

/-! ### Operation map (R82) -/

/-- The `op` column of R82. -/
def OpCode.byte : OpCode → Byte
  | .crcClear => 0x01
  | .crcByte => 0x02
  | .crcRead => 0x03
  | .txBuild => 0x10
  | .txSerialize => 0x11
  | .txLength => 0x12
  | .rxLoad => 0x20
  | .rxRelease => 0x21
  | .rxClassify => 0x22
  | .rxSize => 0x23
  | .rxComplete => 0x24
  | .rxVerify => 0x25
  | .cmdCommand => 0x30
  | .cmdAction => 0x31
  | .cmdDeviceId => 0x32
  | .cmdIsAck => 0x33
  | .cmdIsNak => 0x34
  | .cmdPayload => 0x35
  | .tlmDeviceId => 0x40
  | .tlmFrameCounter => 0x41
  | .tlmSensorCount => 0x42
  | .tlmPayload => 0x43
  | .tlmSensorRecord => 0x44
  | .srInfo => 0x50
  | .srSensorNumber => 0x51
  | .srIsVirtual => 0x52
  | .srPositionUnits => 0x53
  | .srOrientationUnits => 0x54
  | .srButton0 => 0x55
  | .srButton1 => 0x56
  | .srDistortionLevel => 0x57
  | .srAuxInput => 0x58
  | .srPosition => 0x59
  | .srOrientation => 0x5A

/-- The `format` column of R82. -/
def OpCode.format : OpCode → Format
  | .crcClear => .n
  | .crcByte => .b
  | .crcRead => .n
  | .txBuild => .bld
  | .txSerialize => .n
  | .txLength => .n
  | .rxLoad => .ld
  | .rxRelease => .n
  | .rxClassify => .n
  | .rxSize => .n
  | .rxComplete => .n
  | .rxVerify => .n
  | .cmdCommand => .n
  | .cmdAction => .n
  | .cmdDeviceId => .n
  | .cmdIsAck => .n
  | .cmdIsNak => .n
  | .cmdPayload => .n
  | .tlmDeviceId => .n
  | .tlmFrameCounter => .n
  | .tlmSensorCount => .n
  | .tlmPayload => .n
  | .tlmSensorRecord => .i
  | .srInfo => .i
  | .srSensorNumber => .i
  | .srIsVirtual => .i
  | .srPositionUnits => .i
  | .srOrientationUnits => .i
  | .srButton0 => .i
  | .srButton1 => .i
  | .srDistortionLevel => .i
  | .srAuxInput => .i
  | .srPosition => .ik
  | .srOrientation => .ik

/-- The `mnemonic` column of R82. -/
def OpCode.mnemonic : OpCode → String
  | .crcClear => "CRC_CLEAR"
  | .crcByte => "CRC_BYTE"
  | .crcRead => "CRC_READ"
  | .txBuild => "TX_BUILD"
  | .txSerialize => "TX_SERIALIZE"
  | .txLength => "TX_LENGTH"
  | .rxLoad => "RX_LOAD"
  | .rxRelease => "RX_RELEASE"
  | .rxClassify => "RX_CLASSIFY"
  | .rxSize => "RX_SIZE"
  | .rxComplete => "RX_COMPLETE"
  | .rxVerify => "RX_VERIFY"
  | .cmdCommand => "CMD_COMMAND"
  | .cmdAction => "CMD_ACTION"
  | .cmdDeviceId => "CMD_DEVICE_ID"
  | .cmdIsAck => "CMD_IS_ACK"
  | .cmdIsNak => "CMD_IS_NAK"
  | .cmdPayload => "CMD_PAYLOAD"
  | .tlmDeviceId => "TLM_DEVICE_ID"
  | .tlmFrameCounter => "TLM_FRAME_COUNTER"
  | .tlmSensorCount => "TLM_SENSOR_COUNT"
  | .tlmPayload => "TLM_PAYLOAD"
  | .tlmSensorRecord => "TLM_SENSOR_RECORD"
  | .srInfo => "SR_INFO"
  | .srSensorNumber => "SR_SENSOR_NUMBER"
  | .srIsVirtual => "SR_IS_VIRTUAL"
  | .srPositionUnits => "SR_POSITION_UNITS"
  | .srOrientationUnits => "SR_ORIENTATION_UNITS"
  | .srButton0 => "SR_BUTTON0"
  | .srButton1 => "SR_BUTTON1"
  | .srDistortionLevel => "SR_DISTORTION_LEVEL"
  | .srAuxInput => "SR_AUX_INPUT"
  | .srPosition => "SR_POSITION"
  | .srOrientation => "SR_ORIENTATION"

/-- The rows of R82, in its order. -/
def OpCode.all : List OpCode :=
  [.crcClear, .crcByte, .crcRead, .txBuild, .txSerialize, .txLength,
   .rxLoad, .rxRelease, .rxClassify, .rxSize, .rxComplete, .rxVerify,
   .cmdCommand, .cmdAction, .cmdDeviceId, .cmdIsAck, .cmdIsNak, .cmdPayload,
   .tlmDeviceId, .tlmFrameCounter, .tlmSensorCount, .tlmPayload, .tlmSensorRecord, .srInfo,
   .srSensorNumber, .srIsVirtual, .srPositionUnits, .srOrientationUnits, .srButton0, .srButton1,
   .srDistortionLevel, .srAuxInput, .srPosition, .srOrientation]

/-- The row of R82 with a given `op`; every other `op` value is unassigned (R82). -/
def OpCode.ofByte? (b : Byte) : Option OpCode := OpCode.all.find? fun o => o.byte == b

/-- The `sub` values a row admits: the format's constraint of R81 and the extra constraint of R82. -/
def OpCode.subAdmitted (o : OpCode) (sub : Byte) : Bool :=
  match o, o.format with
  | .srPosition, _ => sub.toNat ≤ 2
  | .srOrientation, _ => sub.toNat ≤ 3
  | _, .b => true
  | _, .bld => sub.toNat ≤ 1
  | _, _ => sub == 0

/-- How many operand words a request of a format carries (`nw` of R85). -/
def Format.operandCount (f : Format) (sub : Byte) : Nat :=
  match f with
  | .n => 0
  | .b => 0
  | .i => 1
  | .ik => 1
  | .bld => 5 + sub.toNat
  | .ld => 1

/-- How many bytes the byte block of a request of a format carries (`nb` of R85). -/
def Format.blockLength (f : Format) (sub : Byte) (words : List Word) : Nat :=
  match f with
  | .n => 0
  | .b => 0
  | .i => 0
  | .ik => 0
  | .bld => if sub = 1 then (words.getD 5 0).toNat else 0
  | .ld => (words.getD 0 0).toNat

/-- The operation a row of R82 and its operands stand for, once R85's checks have passed. -/
def OpCode.instr (o : OpCode) (sub : Byte) (words : List Word) (block : List Byte) : Instr :=
  match o with
  | .crcClear => .crcClear
  | .crcByte => .crcByte sub
  | .crcRead => .crcRead
  | .txBuild => 
    .txBuild (words.getD 0 0) (words.getD 1 0) (words.getD 2 0) (words.getD 3 0) (words.getD 4 0)
      (if sub = 1 then some block else none)
  | .txSerialize => .txSerialize
  | .txLength => .txLength
  | .rxLoad => .rxLoad block
  | .rxRelease => .rxRelease
  | .rxClassify => .rxClassify
  | .rxSize => .rxSize
  | .rxComplete => .rxComplete
  | .rxVerify => .rxVerify
  | .cmdCommand => .cmdCommand
  | .cmdAction => .cmdAction
  | .cmdDeviceId => .cmdDeviceId
  | .cmdIsAck => .cmdIsAck
  | .cmdIsNak => .cmdIsNak
  | .cmdPayload => .cmdPayload
  | .tlmDeviceId => .tlmDeviceId
  | .tlmFrameCounter => .tlmFrameCounter
  | .tlmSensorCount => .tlmSensorCount
  | .tlmPayload => .tlmPayload
  | .tlmSensorRecord => .tlmSensorRecord (words.getD 0 0)
  | .srInfo => .srInfo (words.getD 0 0)
  | .srSensorNumber => .srSensorNumber (words.getD 0 0)
  | .srIsVirtual => .srIsVirtual (words.getD 0 0)
  | .srPositionUnits => .srPositionUnits (words.getD 0 0)
  | .srOrientationUnits => .srOrientationUnits (words.getD 0 0)
  | .srButton0 => .srButton0 (words.getD 0 0)
  | .srButton1 => .srButton1 (words.getD 0 0)
  | .srDistortionLevel => .srDistortionLevel (words.getD 0 0)
  | .srAuxInput => .srAuxInput (words.getD 0 0)
  | .srPosition => .srPosition (words.getD 0 0) sub
  | .srOrientation => .srOrientation (words.getD 0 0) sub

/-- The decoder of R85, on every request; `none` is R85's BAD_OPERATION. -/
def decodeRequest (r : Request) : Option Instr :=
  if r.rsv ≠ 0 then none
  else
    match OpCode.ofByte? r.op with
    | none => none
    | some o =>
      if o.subAdmitted r.sub = false then none
      else if r.words.length ≠ o.format.operandCount r.sub then none
      else if r.block.length ≠ o.format.blockLength r.sub r.words then none
      else some (o.instr r.sub r.words r.block)

/-! ### Wire frames (R60, R61) -/

/-- The command preamble of R61; its bytes on the wire are `56 50 52 42`. -/
def commandPreamble : Word := 0x42525056

/-- The telemetry preamble of R61; its bytes on the wire are `56 50 52 50`. -/
def telemetryPreamble : Word := 0x50525056

/-- The first four bytes of a buffer as its preamble, where there are four (R121). -/
def preambleOf : List Byte → Option Word
  | b0 :: b1 :: b2 :: b3 :: _ => some (leWord b0 b1 b2 b3)
  | _ => none

/-- The operation a delivered buffer stands for: the row of R61 its preamble selects, or a plain
RX_LOAD of the buffer where it begins with neither preamble. A buffer longer than the operand word
of RX_LOAD can count is refused (log 4). -/
def decodeFrame (bs : List Byte) : Option Instr :=
  if 2 ^ 32 ≤ bs.length then none
  else if preambleOf bs = some commandPreamble then some (.frameCommand (bs.drop 4))
  else if preambleOf bs = some telemetryPreamble then some (.frameTelemetry (bs.drop 4))
  else some (.rxLoad bs)

/-- The operation an input spells. The reset event and the host's reads spell none. -/
def decodeInput : Input → Option Instr
  | .request r => decodeRequest r
  | .frame bs => decodeFrame bs
  | .reset => none
  | .readRx _ _ => none
  | .readTx _ _ => none

/-! ### Encoder -/

/-- A request of format N. -/
def OpCode.requestN (o : OpCode) : Input := .request ⟨requestWord o.byte 0, [], []⟩

/-- A request of format I (R81). -/
def OpCode.requestI (o : OpCode) (index : Word) : Input :=
  .request ⟨requestWord o.byte 0, [index], []⟩

/-- A request of format IK (R81). -/
def OpCode.requestIK (o : OpCode) (index : Word) (k : Byte) : Input :=
  .request ⟨requestWord o.byte k, [index], []⟩

/-- The request (or the wire bytes) of an operation, from R81, R82 and R61. -/
def encode : Instr → Input
  | .crcClear => OpCode.requestN .crcClear
  | .crcByte b => .request ⟨requestWord (OpCode.byte .crcByte) b, [], []⟩
  | .crcRead => OpCode.requestN .crcRead
  | .txBuild dev cmd act arg1 arg2 none =>
    .request ⟨requestWord (OpCode.byte .txBuild) 0, [dev, cmd, act, arg1, arg2], []⟩
  | .txBuild dev cmd act arg1 arg2 (some pl) =>
    .request ⟨requestWord (OpCode.byte .txBuild) 1,
      [dev, cmd, act, arg1, arg2, BitVec.ofNat 32 pl.length], pl⟩
  | .txSerialize => OpCode.requestN .txSerialize
  | .txLength => OpCode.requestN .txLength
  | .rxLoad bs =>
    .request ⟨requestWord (OpCode.byte .rxLoad) 0, [BitVec.ofNat 32 bs.length], bs⟩
  | .rxRelease => OpCode.requestN .rxRelease
  | .rxClassify => OpCode.requestN .rxClassify
  | .rxSize => OpCode.requestN .rxSize
  | .rxComplete => OpCode.requestN .rxComplete
  | .rxVerify => OpCode.requestN .rxVerify
  | .cmdCommand => OpCode.requestN .cmdCommand
  | .cmdAction => OpCode.requestN .cmdAction
  | .cmdDeviceId => OpCode.requestN .cmdDeviceId
  | .cmdIsAck => OpCode.requestN .cmdIsAck
  | .cmdIsNak => OpCode.requestN .cmdIsNak
  | .cmdPayload => OpCode.requestN .cmdPayload
  | .tlmDeviceId => OpCode.requestN .tlmDeviceId
  | .tlmFrameCounter => OpCode.requestN .tlmFrameCounter
  | .tlmSensorCount => OpCode.requestN .tlmSensorCount
  | .tlmPayload => OpCode.requestN .tlmPayload
  | .tlmSensorRecord index => OpCode.requestI .tlmSensorRecord index
  | .srInfo index => OpCode.requestI .srInfo index
  | .srSensorNumber index => OpCode.requestI .srSensorNumber index
  | .srIsVirtual index => OpCode.requestI .srIsVirtual index
  | .srPositionUnits index => OpCode.requestI .srPositionUnits index
  | .srOrientationUnits index => OpCode.requestI .srOrientationUnits index
  | .srButton0 index => OpCode.requestI .srButton0 index
  | .srButton1 index => OpCode.requestI .srButton1 index
  | .srDistortionLevel index => OpCode.requestI .srDistortionLevel index
  | .srAuxInput index => OpCode.requestI .srAuxInput index
  | .srPosition index k => OpCode.requestIK .srPosition index k
  | .srOrientation index k => OpCode.requestIK .srOrientation index k
  | .frameCommand rest => .frame (le32 commandPreamble ++ rest)
  | .frameTelemetry rest => .frame (le32 telemetryPreamble ++ rest)

/-- The table's mnemonic of an operation. -/
def Instr.mnemonic : Instr → String
  | .crcClear => OpCode.mnemonic .crcClear
  | .crcByte _ => OpCode.mnemonic .crcByte
  | .crcRead => OpCode.mnemonic .crcRead
  | .txBuild _ _ _ _ _ _ => OpCode.mnemonic .txBuild
  | .txSerialize => OpCode.mnemonic .txSerialize
  | .txLength => OpCode.mnemonic .txLength
  | .rxLoad _ => OpCode.mnemonic .rxLoad
  | .rxRelease => OpCode.mnemonic .rxRelease
  | .rxClassify => OpCode.mnemonic .rxClassify
  | .rxSize => OpCode.mnemonic .rxSize
  | .rxComplete => OpCode.mnemonic .rxComplete
  | .rxVerify => OpCode.mnemonic .rxVerify
  | .cmdCommand => OpCode.mnemonic .cmdCommand
  | .cmdAction => OpCode.mnemonic .cmdAction
  | .cmdDeviceId => OpCode.mnemonic .cmdDeviceId
  | .cmdIsAck => OpCode.mnemonic .cmdIsAck
  | .cmdIsNak => OpCode.mnemonic .cmdIsNak
  | .cmdPayload => OpCode.mnemonic .cmdPayload
  | .tlmDeviceId => OpCode.mnemonic .tlmDeviceId
  | .tlmFrameCounter => OpCode.mnemonic .tlmFrameCounter
  | .tlmSensorCount => OpCode.mnemonic .tlmSensorCount
  | .tlmPayload => OpCode.mnemonic .tlmPayload
  | .tlmSensorRecord _ => OpCode.mnemonic .tlmSensorRecord
  | .srInfo _ => OpCode.mnemonic .srInfo
  | .srSensorNumber _ => OpCode.mnemonic .srSensorNumber
  | .srIsVirtual _ => OpCode.mnemonic .srIsVirtual
  | .srPositionUnits _ => OpCode.mnemonic .srPositionUnits
  | .srOrientationUnits _ => OpCode.mnemonic .srOrientationUnits
  | .srButton0 _ => OpCode.mnemonic .srButton0
  | .srButton1 _ => OpCode.mnemonic .srButton1
  | .srDistortionLevel _ => OpCode.mnemonic .srDistortionLevel
  | .srAuxInput _ => OpCode.mnemonic .srAuxInput
  | .srPosition _ _ => OpCode.mnemonic .srPosition
  | .srOrientation _ _ => OpCode.mnemonic .srOrientation
  | .frameCommand _ => "FRAME_COMMAND"
  | .frameTelemetry _ => "FRAME_TELEMETRY"

/-! ### Words of spec/opcode_table.json -/

/-- The input whose bits are `w`, numbered as the opcode table numbers them, with every bit from
`nbits` on zero: the request word in bits 31..0, then the operand words its format asks for, then its
byte block (log 5). A word that is one of the two preambles is a wire frame of `nbits` bits, since the
table gives those rows by their preamble (log 4). -/
def tableInput (nbits w : Nat) : Input :=
  let v := w % 2 ^ nbits
  let word : Word := BitVec.ofNat 32 v
  if word = commandPreamble ∨ word = telemetryPreamble then
    .frame (leBytes (max 4 (nbits / 8)) v)
  else
    let r : Request := ⟨word, [], []⟩
    match OpCode.ofByte? r.op with
    | none => .request r
    | some o =>
      let nw := o.format.operandCount r.sub
      let words := (List.range nw).map fun i => BitVec.ofNat 32 (v >>> (32 * (i + 1)))
      let nb := o.format.blockLength r.sub words
      .request ⟨word, words, leBytes nb (v >>> (32 * (nw + 1)))⟩

/-- What the decoder reads from the input whose bits are `w`. -/
def decodeTableWord (nbits w : Nat) : Option Instr := decodeInput (tableInput nbits w)

/-! ### Code tables (R68 to R70) -/

/-- The value column of R68. -/
def ActionCode.code : ActionCode → Word
  | .set => 0
  | .get => 1
  | .reset => 2
  | .ack => 3
  | .nak => 4

/-- The value column of R69. -/
def CommandCode.code : CommandCode → Word
  | .hemisphere => 0
  | .filter => 1
  | .tipOffset => 2
  | .increment => 3
  | .boresight => 4
  | .sensorWhoAmI => 5
  | .framerate => 6
  | .units => 7
  | .sourceRotation => 8
  | .syncMode => 9
  | .stationMap => 10
  | .stylus => 11
  | .seuId => 12
  | .dualOutput => 13
  | .serialConfig => 14
  | .blockConfig => 15
  | .frameCount => 16
  | .bit => 17
  | .singlePno => 18
  | .continuousPno => 19
  | .whoAmI => 20
  | .initialize_ => 21
  | .persist => 22
  | .enableMap => 23
  | .fttMode => 24
  | .mapStatus => 25
  | .sensorBlockConfig => 26
  | .sourceConfig => 27
  | .predFilterConfig => 28
  | .predFilterExt => 29
  | .sourceSelect => 30
  | .sensorOrigin => 31
  | .sensorVirtual => 32

/-- The position-unit codes of R70. -/
def PositionUnits.code : PositionUnits → Word
  | .inch => 0
  | .foot => 1
  | .centimeter => 2
  | .meter => 3

/-- The orientation-unit codes of R70. -/
def OrientationUnits.code : OrientationUnits → Word
  | .eulerDegree => 0
  | .eulerRadian => 1
  | .quaternion => 2

end Sys2Proof
end

