-- ==== Sys2Proof/Machine/State.lean ====
section
/-! DEFINITION. The block's state as plain data: the tuple of R23, field by field, and beside it what
the model needs to put a whole run into one machine: the parameters (R6), the host's inputs still to
come (R50), the answers already given (R199) and the slices the host holds (R196). -/

namespace Sys2Proof.Machine

/-- A byte-addressed space (R40): a list of (offset, byte) pairs with strictly rising offsets and no
entry equal to what an unlisted offset reads as. -/
abbrev Memory := List Host.Cell

/-- The classes of R27; their codes are those of R83. -/
inductive FrameClass where
  | empty | command | telemetry | unknown
  deriving DecidableEq, Repr

/-- The status codes of R170. -/
inductive Status where
  | ok | naEmpty | naUnknown | naFamily | naTruncated
  | indexOutOfRange | checksumMismatch | capacityExceeded | badOperation
  deriving DecidableEq, Repr

/-- A response (R84). -/
structure Response where
  status : Status
  value  : Word
  off    : Word
  len    : Word
  deriving DecidableEq, Repr

/-- What the block gives back to the host: the one response of a request (R84), or the bytes of a
host read (R187). -/
inductive Output where
  | response (r : Response)
  | bytes (bs : List Byte)
  deriving DecidableEq, Repr

/-- A slice of RX an OK response named (R46). -/
structure Slice where
  off : Nat
  len : Nat
  deriving DecidableEq, Repr

/-- How a step can stop with a fault. No operation of the block faults (R172, R179, R199); only a
host read of an offset that is not in the buffer's space (R40) does. -/
inductive Fault where
  /-- Raised by a host read of RX that reaches an offset at or beyond `RX_BUF_BYTES`, where R40 says
  there is no byte. Safe: the model stops (log 8). -/
  | rxOffsetDoesNotExist
  /-- Raised by a host read of TX that reaches an offset at or beyond `FH+CH+CKW+TX_MAX_PAYLOAD`,
  where R40 says there is no byte. Safe: the model stops (log 8). -/
  | txOffsetDoesNotExist
  deriving DecidableEq, Repr

/-- How a step can be refused. No operation of the block is refused; R187 and R196 have the model
refuse the host reads that are outside the block's contract. -/
inductive Refusal where
  /-- An operation the model gives no meaning. No arm of `exec` raises it. Safe. -/
  | notModelled (mnemonic : String)
  /-- Raised by a host read of RX that lies in no slice the host holds: a stale slice or none at all
  (R196, U5, U15). Safe: the model stops (log 6). -/
  | rxReadOutsideSlice
  /-- Raised by a host read of TX at or beyond `tx_len` (R32, R194, U15). Safe: the model stops
  (log 6). -/
  | txReadBeyondLength
  deriving DecidableEq, Repr

/-- The machine. The fields from `crc` to `txLen` are R23's tuple; the other four are the model's own
(log 1, log 5, log 6). -/
structure State where
  /-- The parameters of R6; no operation changes them (R192). -/
  cfg : Config
  /-- The checksum accumulator (R22). -/
  crc : Half
  /-- The receive buffer (R24). -/
  rxBuf : Memory
  /-- The number of valid bytes in the receive buffer (R25). -/
  rxLen : Nat
  /-- Whether a received buffer is present (R26). -/
  rxPresent : Bool
  /-- The latched class (R27). -/
  rxClass : FrameClass
  /-- Whether a command frame is built (R29). -/
  txBuilt : Bool
  /-- The built frame's `device_id` (R30). -/
  txDev : Word
  /-- The built frame's `command` (R30). -/
  txCmd : Word
  /-- The built frame's `action` (R30). -/
  txAct : Word
  /-- The built frame's `arg1` (R30). -/
  txArg1 : Word
  /-- The built frame's `arg2` (R30). -/
  txArg2 : Word
  /-- The built frame's `size` (R30). -/
  txSize : Word
  /-- The built frame's payload (R31). -/
  txPl : List Byte
  /-- The transmit buffer (R32). -/
  txBuf : Memory
  /-- The number of valid bytes in the transmit buffer (R32). -/
  txLen : Nat
  /-- What the host will put to the block, in order (R50). -/
  inputs : List Input
  /-- What the block has answered since reset, in order (R199). -/
  outputs : List Output
  /-- The slices of RX the host may read (R46, R196). -/
  slices : List Slice
  deriving DecidableEq, Repr

/-- The state after a reset of a block with parameters `c` (R190). R190 leaves `rx_buf`, `tx_buf`,
`tx_pl` and the `tx_*` header registers at any value; the model names zero and empty (log 3). -/
def State.resetWith (c : Config) : State where
  cfg := c
  crc := 0
  rxBuf := []
  rxLen := 0
  rxPresent := false
  rxClass := .empty
  txBuilt := false
  txDev := 0
  txCmd := 0
  txAct := 0
  txArg1 := 0
  txArg2 := 0
  txSize := 0
  txPl := []
  txBuf := []
  txLen := 0
  inputs := []
  outputs := []
  slices := []

/-- The machine right after reset (R190), with the parameters of log 1 and no input pending. -/
def State.reset : State := State.resetWith Config.standard

end Sys2Proof.Machine
end

