-- ==== Sys2Proof/Machine/Ops.lean ====
section
/-! DEFINITION. The named operations: over the byte-addressed spaces (R40, R43), over the state
elements of R23, and the one way every operation ends, its response (R10, R84). The block takes no
exception and returns from none (R179, R180); what an operation raises is a status, in `raise`. -/

namespace Sys2Proof.Machine

/-! ### Byte-addressed spaces -/

/-- What an offset that nothing has written reads as. No host and no operation observes it (R47);
DESIGN CHOICE (log 3). -/
def Memory.unlisted : Byte := 0

/-- One byte of a space. -/
def Memory.read : Memory → Nat → Byte
  | [], _ => Memory.unlisted
  | (k, b) :: m, a => if a = k then b else Memory.read m a

/-- Write one byte, keeping the list canonical. -/
def Memory.write : Memory → Nat → Byte → Memory
  | [], a, v => if v = Memory.unlisted then [] else [(a, v)]
  | (k, b) :: m, a, v =>
    if a < k then
      if v = Memory.unlisted then (k, b) :: m else (a, v) :: (k, b) :: m
    else if a = k then
      if v = Memory.unlisted then m else (a, v) :: m
    else (k, b) :: Memory.write m a v

/-- Write bytes at consecutive offsets from `off`. -/
def Memory.writeBytes : Memory → Nat → List Byte → Memory
  | m, _, [] => m
  | m, off, b :: bs => Memory.writeBytes (Memory.write m off b) (off + 1) bs

/-- `Bytes(S, off, n)` (R10). -/
def Memory.readBytes (m : Memory) : Nat → Nat → List Byte
  | _, 0 => []
  | off, n + 1 => Memory.read m off :: Memory.readBytes m (off + 1) n

/-- `MemRead(S, off, 4)` (R43). -/
def Memory.readWord (m : Memory) (off : Nat) : Word :=
  leWord (Memory.read m off) (Memory.read m (off + 1)) (Memory.read m (off + 2))
    (Memory.read m (off + 3))

/-- The canonical form from a least offset on: rising offsets, no entry equal to an unlisted one. -/
def Memory.wfFrom : Nat → Memory → Bool
  | _, [] => true
  | lo, (k, b) :: m => decide (lo ≤ k) && b != Memory.unlisted && Memory.wfFrom (k + 1) m

/-- The canonical form of a space. -/
def Memory.wf (m : Memory) : Bool := Memory.wfFrom 0 m

/-- Every listed offset is below `bound`. -/
def Memory.below (bound : Nat) (m : Memory) : Bool := m.all fun c => decide (c.1 < bound)

/-! ### The discriminator (R121) -/

/-- `classify(present, buf, len)` (R121). -/
def classify (present : Bool) (buf : Memory) (len : Nat) : FrameClass :=
  if present = false ∨ len = 0 then .empty
  else if len < 4 then .unknown
  else if Memory.readWord buf 0 = commandPreamble then .command
  else if Memory.readWord buf 0 = telemetryPreamble then .telemetry
  else .unknown

/-! ### Updates of the state elements -/

/-- Write the accumulator (R22). -/
def State.setCrc (s : State) (c : Half) : State := { s with crc := c }

/-- Load `bs` from byte 0 of the receive buffer and latch its class (R120); every slice ends (R196). -/
def State.loadRx (s : State) (bs : List Byte) : State :=
  { s with
    rxBuf := Memory.writeBytes s.rxBuf 0 bs
    rxLen := bs.length
    rxPresent := true
    rxClass := classify true (Memory.writeBytes s.rxBuf 0 bs) bs.length
    slices := [] }

/-- Drop the received buffer (R122, R177); every slice ends (R196). -/
def State.dropRx (s : State) : State :=
  { s with rxPresent := false, rxLen := 0, rxClass := .empty, slices := [] }

/-- Discard the built frame and withdraw its bytes (R110, R177). -/
def State.discardTx (s : State) : State := { s with txBuilt := false, txLen := 0 }

/-- Latch a command frame and withdraw earlier bytes (R110). -/
def State.latchTx (s : State) (dev cmd act arg1 arg2 size : Word) (pl : List Byte) : State :=
  { s with
    txBuilt := true
    txDev := dev
    txCmd := cmd
    txAct := act
    txArg1 := arg1
    txArg2 := arg2
    txSize := size
    txPl := pl
    txLen := 0 }

/-- Write the serialised frame from byte 0 of the transmit buffer (R111). -/
def State.storeTx (s : State) (frame : List Byte) : State :=
  { s with txBuf := Memory.writeBytes s.txBuf 0 frame, txLen := frame.length }

/-- Give the host one output. -/
def State.emit (s : State) (o : Output) : State := { s with outputs := s.outputs ++ [o] }

/-- Let the host read a slice (R46); granting one it already holds changes nothing. -/
def State.grant (s : State) (sl : Slice) : State :=
  { s with slices := if sl ∈ s.slices then s.slices else sl :: s.slices }

/-! ### Responses (R10, R84) -/

/-- The result of one step of this machine. -/
abbrev Result := Host.Outcome State Fault Refusal

/-- `respond(status, value, off, len)` (R10). -/
def respond (s : State) (r : Response) : Result := .next (s.emit (.response r))

/-- `raise S`, which is `respond(S, 0, 0, 0)` (R10). -/
def raise (s : State) (st : Status) : Result := respond s ⟨st, 0, 0, 0⟩

/-- `respond(OK, value, 0, 0)`. -/
def respondValue (s : State) (v : Word) : Result := respond s ⟨.ok, v, 0, 0⟩

/-- `u32(v)` of a value the rules bound (R9). -/
def u32 (n : Nat) : Word := BitVec.ofNat 32 n

/-- `respond(OK, value, off, len)` naming a slice of RX, which the host may read from now on (R46). -/
def respondSlice (s : State) (v : Word) (off len : Nat) : Result :=
  respond (s.grant ⟨off, len⟩) ⟨.ok, v, u32 off, u32 len⟩

/-- End an operation that only reads: its value, or the status it raises. -/
def finish (s : State) : Except Status Word → Result
  | .ok v => respondValue s v
  | .error st => raise s st

end Sys2Proof.Machine
end

