-- ==== Sys2Proof/Machine/Flags.lean ====
section
/-! DEFINITION. The block has no condition codes and no status flags (R35). What takes their place is
in a response: the codes of statuses (R170), the not-applicable predicate (R171), the class codes
(R83) and the encoding of booleans (R11). -/

namespace Sys2Proof.Machine

/-- The code column of R170. -/
def Status.code : Status → Byte
  | .ok => 0x00
  | .naEmpty => 0x01
  | .naUnknown => 0x02
  | .naFamily => 0x03
  | .naTruncated => 0x04
  | .indexOutOfRange => 0x05
  | .checksumMismatch => 0x06
  | .capacityExceeded => 0x07
  | .badOperation => 0x08

/-- The not-applicable statuses of R171. -/
def Status.notApplicable : Status → Bool
  | .naEmpty => true
  | .naUnknown => true
  | .naFamily => true
  | .naTruncated => true
  | .ok => false
  | .indexOutOfRange => false
  | .checksumMismatch => false
  | .capacityExceeded => false
  | .badOperation => false

/-- The class codes of R83, zero-extended to 32 bits (R11). -/
def FrameClass.code : FrameClass → Word
  | .empty => 0
  | .command => 1
  | .telemetry => 2
  | .unknown => 3

/-- A boolean result: 1 for true and 0 for false (R11). -/
def boolWord (b : Bool) : Word := if b then 1 else 0

end Sys2Proof.Machine
end

