-- ==== Sys2Proof/Machine/Operands.lean ====
section
/-! DEFINITION. Operand assembly from the wire (R73): the sizes of the frame parts (R6), the common
first steps that guard every read of RX (R124, R140, R150, R156), and the info fields (R67). -/

namespace Sys2Proof.Machine

/-- `FH`, the size of the FrameHeader (R6). -/
abbrev FH : Nat := 8

/-- `CH`, the size of the CommandHeader (R6, D4). -/
abbrev CH : Nat := 20

/-- `TH`, the size of the TelemetryHeader (R6). -/
abbrev TH : Nat := 16

/-- `SR`, the size of a SensorRecord (R6). -/
abbrev SR : Nat := 32

/-- `CKW`, the width of the checksum field in bytes (R6). -/
abbrev CKW : Nat := 4

/-- `MemRead(RX, off, 4)`. -/
def rxWord (s : State) (off : Nat) : Word := Memory.readWord s.rxBuf off

/-- `require_frame()` (R124): the frame's `size` field. -/
def requireFrame (s : State) : Except Status Word :=
  match s.rxClass with
  | .empty => .error .naEmpty
  | .unknown => .error .naUnknown
  | .command => if s.rxLen < FH then .error .naTruncated else .ok (rxWord s 4)
  | .telemetry => if s.rxLen < FH then .error .naTruncated else .ok (rxWord s 4)

/-- `require_command(end)` (R140). -/
def requireCommand (s : State) (stop : Nat) : Except Status Unit :=
  match s.rxClass with
  | .empty => .error .naEmpty
  | .unknown => .error .naUnknown
  | .telemetry => .error .naFamily
  | .command => if stop > s.rxLen then .error .naTruncated else .ok ()

/-- `require_telemetry(end)` (R150). -/
def requireTelemetry (s : State) (stop : Nat) : Except Status Unit :=
  match s.rxClass with
  | .empty => .error .naEmpty
  | .unknown => .error .naUnknown
  | .command => .error .naFamily
  | .telemetry => if stop > s.rxLen then .error .naTruncated else .ok ()

/-- `resolve_record(index)` (R156): the offset of a sensor record. -/
def resolveRecord (s : State) (index : Word) : Except Status Nat :=
  match s.rxClass with
  | .empty => .error .naEmpty
  | .unknown => .error .naUnknown
  | .command => .error .naFamily
  | .telemetry =>
    if s.rxLen < FH + TH then .error .indexOutOfRange
    else if index.toNat ≥ (rxWord s 20).toNat then .error .indexOutOfRange
    else if FH + TH + index.toNat * SR + SR > s.rxLen then .error .indexOutOfRange
    else .ok (FH + TH + index.toNat * SR)

/-- The 4-byte command-header field at `off`, once `require_command` has passed (R141 to R145). -/
def commandField (s : State) (off : Nat) : Except Status Word :=
  match requireCommand s (off + 4) with
  | .ok _ => .ok (rxWord s off)
  | .error st => .error st

/-- The 4-byte telemetry-header field at `off`, once `require_telemetry` has passed (R151 to R153). -/
def telemetryField (s : State) (off : Nat) : Except Status Word :=
  match requireTelemetry s (off + 4) with
  | .ok _ => .ok (rxWord s off)
  | .error st => .error st

/-- The 4-byte word at `off` within a sensor record (R157, R166, R167). -/
def recordWord (s : State) (index : Word) (off : Nat) : Except Status Word :=
  match resolveRecord s index with
  | .ok base => .ok (rxWord s (base + off))
  | .error st => .error st

/-- A field of a sensor record's info word, `(info >> lo) & mask` (R67, R73). -/
def recordInfoField (s : State) (index : Word) (lo : Nat) (mask : Word) : Except Status Word :=
  match recordWord s index 0 with
  | .ok info => .ok ((info >>> lo) &&& mask)
  | .error st => .error st

/-- The little-endian `size` field read once its family's guard has passed, less what the slice of a
family leaves out: the length `L` of the payload, in ℤ (R9, R146, R154). -/
def payloadLength (s : State) (less : Nat) : Int := ((rxWord s 4).toNat : Int) - (less : Int)

/-- The payload slice of R146 and R154, from `off`, of length `L`: empty where `L ≤ 0`, refused where it
runs past the buffer. -/
def payloadSlice (s : State) (off less : Nat) : Result :=
  let L := payloadLength s less
  if L ≤ 0 then respondSlice s 0 off 0
  else if (off : Int) + L > (s.rxLen : Int) then raise s .naTruncated
  else respondSlice s (u32 L.toNat) off L.toNat

end Sys2Proof.Machine
end

