-- ==== Sys2Proof/Machine/Command.lean ====
section
/-! DEFINITION. The command-frame accessors (R141 to R146). -/

namespace Sys2Proof.Machine

/-- CMD_COMMAND (R141). -/
def execCmdCommand (s : State) : Result := finish s (commandField s 12)

/-- CMD_ACTION (R142). -/
def execCmdAction (s : State) : Result := finish s (commandField s 16)

/-- CMD_DEVICE_ID (R143). -/
def execCmdDeviceId (s : State) : Result := finish s (commandField s 8)

/-- CMD_IS_ACK (R144). -/
def execCmdIsAck (s : State) : Result :=
  match commandField s 16 with
  | .error st => raise s st
  | .ok a => respondValue s (boolWord (a == ActionCode.ack.code))

/-- CMD_IS_NAK (R145). -/
def execCmdIsNak (s : State) : Result :=
  match commandField s 16 with
  | .error st => raise s st
  | .ok a => respondValue s (boolWord (a == ActionCode.nak.code))

/-- CMD_PAYLOAD (R146). -/
def execCmdPayload (s : State) : Result :=
  match requireCommand s 8 with
  | .error st => raise s st
  | .ok _ => payloadSlice s (FH + CH) (CH + CKW)

end Sys2Proof.Machine
end

