-- ==== Sys2Proof/Machine/Checksum.lean ====
section
/-! DEFINITION. The 16-bit checksum generator (R100 to R105). -/

namespace Sys2Proof.Machine

/-- `parity4(n) = n[0] XOR n[1] XOR n[2] XOR n[3]` of the four bits of `d` from bit `lo` up (R100). -/
def parity4 (d : Half) (lo : Nat) : Bool :=
  ((d.getLsbD lo ^^ d.getLsbD (lo + 1)) ^^ d.getLsbD (lo + 2)) ^^ d.getLsbD (lo + 3)

/-- `crc_step(crc, b)`, steps 1 to 5 (R100). -/
def crcStep (crc : Half) (b : Byte) : Half :=
  let d : Half := (b ^^^ crc.setWidth 8).setWidth 16
  let c := crc >>> 8
  let c := if parity4 d 0 ^^ parity4 d 4 then c ^^^ 0xC001 else c
  let d := d <<< 6
  let c := c ^^^ d
  let d := d <<< 1
  c ^^^ d

/-- `checksum(bs)`: `crc_step` folded over the bytes from 0 (R101). -/
def checksum (bs : List Byte) : Half := bs.foldl crcStep 0

/-- CRC_CLEAR (R102). -/
def execCrcClear (s : State) : Result := respondValue (s.setCrc 0) 0

/-- CRC_BYTE (R103). -/
def execCrcByte (b : Byte) (s : State) : Result := respondValue (s.setCrc (crcStep s.crc b)) 0

/-- CRC_READ (R104). -/
def execCrcRead (s : State) : Result := respondValue s (s.crc.setWidth 32)

end Sys2Proof.Machine
end

