-- ==== Sys2Proof/Machine/Receive.lean ====
section
/-! DEFINITION. The frame discriminator and the frame operations of the receive side (R120 to R127). -/

namespace Sys2Proof.Machine

/-- Load a received buffer: the whole effect of R120. -/
def loadBuffer (bs : List Byte) (s : State) : Result :=
  if bs.length > s.cfg.rxBufBytes then raise s.dropRx .capacityExceeded
  else respondValue (s.loadRx bs) (s.loadRx bs).rxClass.code

/-- RX_LOAD (R120). -/
def execRxLoad (bs : List Byte) (s : State) : Result := loadBuffer bs s

/-- RX_RELEASE (R122). -/
def execRxRelease (s : State) : Result := respondValue s.dropRx 0

/-- RX_CLASSIFY (R123). -/
def execRxClassify (s : State) : Result := respondValue s s.rxClass.code

/-- RX_SIZE (R125). -/
def execRxSize (s : State) : Result := finish s (requireFrame s)

/-- RX_COMPLETE (R126). -/
def execRxComplete (s : State) : Result :=
  match requireFrame s with
  | .error st => raise s st
  | .ok size => respondValue s (boolWord (decide (FH + size.toNat ≤ s.rxLen)))

/-- RX_VERIFY (R127). -/
def execRxVerify (s : State) : Result :=
  match requireFrame s with
  | .error st => raise s st
  | .ok size =>
    if size.toNat < CKW ∨ FH + size.toNat > s.rxLen then raise s .naTruncated
    else
      let e := FH + size.toNat - CKW
      if rxWord s e = (checksum (Memory.readBytes s.rxBuf 0 e)).setWidth 32 then respondValue s 1
      else raise s .checksumMismatch

end Sys2Proof.Machine
end

