-- ==== Sys2Proof/Machine/SensorRecord.lean ====
section
/-! DEFINITION. The accessors of the sensor-record view (R157 to R168). -/

namespace Sys2Proof.Machine

/-- SR_INFO (R157). -/
def execSrInfo (index : Word) (s : State) : Result := finish s (recordWord s index 0)

/-- SR_SENSOR_NUMBER, `info[6:0]` (R158). -/
def execSrSensorNumber (index : Word) (s : State) : Result :=
  finish s (recordInfoField s index 0 0x7F)

/-- SR_IS_VIRTUAL, `info[7]` (R159). -/
def execSrIsVirtual (index : Word) (s : State) : Result :=
  finish s (recordInfoField s index 7 0x1)

/-- SR_POSITION_UNITS, `info[9:8]` (R160). -/
def execSrPositionUnits (index : Word) (s : State) : Result :=
  finish s (recordInfoField s index 8 0x3)

/-- SR_ORIENTATION_UNITS, `info[11:10]` (R161). -/
def execSrOrientationUnits (index : Word) (s : State) : Result :=
  finish s (recordInfoField s index 10 0x3)

/-- SR_BUTTON0, `info[12]` (R162). -/
def execSrButton0 (index : Word) (s : State) : Result :=
  finish s (recordInfoField s index 12 0x1)

/-- SR_BUTTON1, `info[13]` (R163). -/
def execSrButton1 (index : Word) (s : State) : Result :=
  finish s (recordInfoField s index 13 0x1)

/-- SR_DISTORTION_LEVEL, `info[21:14]` (R164). -/
def execSrDistortionLevel (index : Word) (s : State) : Result :=
  finish s (recordInfoField s index 14 0xFF)

/-- SR_AUX_INPUT, `info[31:22]` (R165). -/
def execSrAuxInput (index : Word) (s : State) : Result :=
  finish s (recordInfoField s index 22 0x3FF)

/-- SR_POSITION, component `k` as a raw pattern (R166, R168). A `k` above 2 is BAD_OPERATION before any
other check (R166, R173); a request with such a `k` does not decode (R85). -/
def execSrPosition (index : Word) (k : Byte) (s : State) : Result :=
  if k.toNat ≤ 2 then finish s (recordWord s index (4 + 4 * k.toNat)) else raise s .badOperation

/-- SR_ORIENTATION, component `k` as a raw pattern (R167, R168). A `k` above 3 is BAD_OPERATION before
any other check (R167, R173); a request with such a `k` does not decode (R85). -/
def execSrOrientation (index : Word) (k : Byte) (s : State) : Result :=
  if k.toNat ≤ 3 then finish s (recordWord s index (16 + 4 * k.toNat)) else raise s .badOperation

end Sys2Proof.Machine
end

