-- ==== Sys2Proof/Machine/Telemetry.lean ====
section
/-! DEFINITION. The telemetry-frame accessors (R151 to R155). -/

namespace Sys2Proof.Machine

/-- TLM_DEVICE_ID (R151). -/
def execTlmDeviceId (s : State) : Result := finish s (telemetryField s 8)

/-- TLM_FRAME_COUNTER (R152). -/
def execTlmFrameCounter (s : State) : Result := finish s (telemetryField s 12)

/-- TLM_SENSOR_COUNT (R153). -/
def execTlmSensorCount (s : State) : Result := finish s (telemetryField s 20)

/-- TLM_PAYLOAD (R154). -/
def execTlmPayload (s : State) : Result :=
  match requireTelemetry s 8 with
  | .error st => raise s st
  | .ok _ => payloadSlice s FH CKW

/-- TLM_SENSOR_RECORD (R155). -/
def execTlmSensorRecord (index : Word) (s : State) : Result :=
  match resolveRecord s index with
  | .error st => raise s st
  | .ok base => respondSlice s (u32 base) base SR

end Sys2Proof.Machine
end

