-- ==== Sys2Proof/Machine/Transmit.lean ====
section
/-! DEFINITION. The command payload marshaler (R110 to R112). -/

namespace Sys2Proof.Machine

/-- The payload a frame carries: the supplied one when the action is Set, else none (R110). -/
def carriedPayload (act : Word) (payload : Option (List Byte)) : List Byte :=
  match payload with
  | some pl => if act = ActionCode.set.code then pl else []
  | none => []

/-- Whether a payload of `p` bytes is too long: for `TX_MAX_PAYLOAD`, or for the u32 `size` (R110). -/
def payloadTooLong (c : Config) (p : Nat) : Bool :=
  (match c.txMaxPayload with
    | some n => decide (p > n)
    | none => false) || decide (CH + p + CKW > 2 ^ 32 - 1)

/-- TX_BUILD (R110). -/
def execTxBuild (dev cmd act arg1 arg2 : Word) (payload : Option (List Byte)) (s : State) : Result :=
  let pl := carriedPayload act payload
  if payloadTooLong s.cfg pl.length then raise s.discardTx .capacityExceeded
  else
    let size := u32 (CH + pl.length + CKW)
    respondValue (s.latchTx dev cmd act arg1 arg2 size pl) size

/-- The bytes of the latched frame up to its checksum field (R111, R63). -/
def frameBody (s : State) : List Byte :=
  le32 commandPreamble ++ le32 s.txSize ++ le32 s.txDev ++ le32 s.txCmd ++ le32 s.txAct
    ++ le32 s.txArg1 ++ le32 s.txArg2 ++ s.txPl

/-- The bytes of the latched frame (R111, R63). -/
def frameBytes (s : State) : List Byte :=
  frameBody s ++ le32 ((checksum (frameBody s)).setWidth 32)

/-- A frame length as the 32-bit `value` of a response: `u32` where it fits, else the free value
`beyond` (log 2). -/
def lengthValue (beyond : Nat → Word) (n : Nat) : Word := if n < 2 ^ 32 then u32 n else beyond n

/-- TX_SERIALIZE (R111). -/
def execTxSerialize (s : State) : Result :=
  if s.txBuilt = false then raise s .naEmpty
  else
    respondValue (s.storeTx (frameBytes s))
      (lengthValue Config.serializeLengthBeyondWord (frameBytes s).length)

/-- TX_LENGTH (R112). -/
def execTxLength (s : State) : Result :=
  respondValue s (lengthValue Config.reportedLengthBeyondWord s.txLen)

/-- The capacity of `tx_buf`; `none` where TX_MAX_PAYLOAD is unbounded (R23, R40). -/
def txCapacity (c : Config) : Option Nat := c.txMaxPayload.map fun n => FH + CH + CKW + n

end Sys2Proof.Machine
end

