-- ==== Sys2Proof/Machine/WireFrame.lean ====
section
/-! DEFINITION. The two wire-frame rows of the opcode table (R61, R121). A frame reaches the block
only as the byte block of an RX_LOAD (R120, R187), so presenting one does what that RX_LOAD does
(log 4). -/

namespace Sys2Proof.Machine

/-- FRAME_COMMAND: a received buffer that begins with the command preamble (R61, R121, R120). -/
def execFrameCommand (rest : List Byte) (s : State) : Result :=
  loadBuffer (le32 commandPreamble ++ rest) s

/-- FRAME_TELEMETRY: a received buffer that begins with the telemetry preamble (R61, R121, R120). -/
def execFrameTelemetry (rest : List Byte) (s : State) : Result :=
  loadBuffer (le32 telemetryPreamble ++ rest) s

end Sys2Proof.Machine
end

