-- ==== Sys2Proof/Machine/Dispatch.lean ====
section
/-! DEFINITION. One arm per operation, each one call of its meaning. -/

namespace Sys2Proof.Machine

def exec (i : Instr) (s : State) : Host.Outcome State Fault Refusal :=
  match i with
  | .crcClear => Sys2Proof.Machine.execCrcClear s
  | .crcByte b => Sys2Proof.Machine.execCrcByte b s
  | .crcRead => Sys2Proof.Machine.execCrcRead s
  | .txBuild dev cmd act arg1 arg2 payload => Sys2Proof.Machine.execTxBuild dev cmd act arg1 arg2 payload s
  | .txSerialize => Sys2Proof.Machine.execTxSerialize s
  | .txLength => Sys2Proof.Machine.execTxLength s
  | .rxLoad bs => Sys2Proof.Machine.execRxLoad bs s
  | .rxRelease => Sys2Proof.Machine.execRxRelease s
  | .rxClassify => Sys2Proof.Machine.execRxClassify s
  | .rxSize => Sys2Proof.Machine.execRxSize s
  | .rxComplete => Sys2Proof.Machine.execRxComplete s
  | .rxVerify => Sys2Proof.Machine.execRxVerify s
  | .cmdCommand => Sys2Proof.Machine.execCmdCommand s
  | .cmdAction => Sys2Proof.Machine.execCmdAction s
  | .cmdDeviceId => Sys2Proof.Machine.execCmdDeviceId s
  | .cmdIsAck => Sys2Proof.Machine.execCmdIsAck s
  | .cmdIsNak => Sys2Proof.Machine.execCmdIsNak s
  | .cmdPayload => Sys2Proof.Machine.execCmdPayload s
  | .tlmDeviceId => Sys2Proof.Machine.execTlmDeviceId s
  | .tlmFrameCounter => Sys2Proof.Machine.execTlmFrameCounter s
  | .tlmSensorCount => Sys2Proof.Machine.execTlmSensorCount s
  | .tlmPayload => Sys2Proof.Machine.execTlmPayload s
  | .tlmSensorRecord index => Sys2Proof.Machine.execTlmSensorRecord index s
  | .srInfo index => Sys2Proof.Machine.execSrInfo index s
  | .srSensorNumber index => Sys2Proof.Machine.execSrSensorNumber index s
  | .srIsVirtual index => Sys2Proof.Machine.execSrIsVirtual index s
  | .srPositionUnits index => Sys2Proof.Machine.execSrPositionUnits index s
  | .srOrientationUnits index => Sys2Proof.Machine.execSrOrientationUnits index s
  | .srButton0 index => Sys2Proof.Machine.execSrButton0 index s
  | .srButton1 index => Sys2Proof.Machine.execSrButton1 index s
  | .srDistortionLevel index => Sys2Proof.Machine.execSrDistortionLevel index s
  | .srAuxInput index => Sys2Proof.Machine.execSrAuxInput index s
  | .srPosition index k => Sys2Proof.Machine.execSrPosition index k s
  | .srOrientation index k => Sys2Proof.Machine.execSrOrientation index k s
  | .frameCommand rest => Sys2Proof.Machine.execFrameCommand rest s
  | .frameTelemetry rest => Sys2Proof.Machine.execFrameTelemetry rest s

end Sys2Proof.Machine
end

