-- ==== Sys2Proof/Machine/HostPort.lean ====
section
/-! DEFINITION. What reaches the block beside its operations (R187): malformed requests (R85, R176),
the reset event (R190), and the host's reads of the two buffers (R32, R46, R196). -/

namespace Sys2Proof.Machine

/-- The answer to a request that spells no operation: BAD_OPERATION and no state change (R176). -/
def badOperation (s : State) : Result := raise s .badOperation

/-- The reset event (R190): every element takes its reset value, the parameters stay (R192), a new run
begins with no response (R199) and no slice is valid any more (R196). The host's further inputs are
its own and stay (log 7). -/
def resetEvent (s : State) : State := { State.resetWith s.cfg with inputs := s.inputs }

/-- Whether `n` bytes from `off` lie within a slice. -/
def Slice.covers (sl : Slice) (off n : Nat) : Bool :=
  decide (sl.off ≤ off) && decide (off + n ≤ sl.off + sl.len)

/-- The host reads RX: only bytes of a slice it holds (R46, R187); an offset beyond the space is no
offset (R40), and any other read is refused (R196, U5, U15). -/
def hostReadRx (off n : Nat) (s : State) : Result :=
  if 0 < n ∧ off + n > s.cfg.rxBufBytes then .fault .rxOffsetDoesNotExist
  else if s.slices.any fun sl => sl.covers off n then
    .next (s.emit (.bytes (Memory.readBytes s.rxBuf off n)))
  else .refused .rxReadOutsideSlice

/-- Whether an access of `n` bytes from `off` leaves a space of the given capacity (R40). -/
def leavesSpace (capacity : Option Nat) (off n : Nat) : Bool :=
  match capacity with
  | some c => decide (0 < n) && decide (off + n > c)
  | none => false

/-- The host reads TX: only `tx_buf[0..tx_len-1]` (R32, R187); an offset beyond the space is no offset
(R40), and any other read is refused (R194, U15). -/
def hostReadTx (off n : Nat) (s : State) : Result :=
  if leavesSpace (txCapacity s.cfg) off n then .fault .txOffsetDoesNotExist
  else if off + n ≤ s.txLen then .next (s.emit (.bytes (Memory.readBytes s.txBuf off n)))
  else .refused .txReadBeyondLength

end Sys2Proof.Machine
end

