-- ==== Sys2Proof/Machine/Step.lean ====
section
/-! DEFINITION. One step: the next interaction of the host, performed atomically (R50). -/

namespace Sys2Proof.Machine

/-- Perform one interaction. A request or a delivered frame is decoded and its operation run; what
decodes to none is answered BAD_OPERATION (R85). -/
def stepInput (inp : Input) (s : State) : Host.Outcome State Fault Refusal :=
  match inp with
  | .request r =>
    match decodeRequest r with
    | some i => exec i s
    | none => badOperation s
  | .frame bs =>
    match decodeFrame bs with
    | some i => exec i s
    | none => badOperation s
  | .reset => .next (resetEvent s)
  | .readRx off n => hostReadRx off n s
  | .readTx off n => hostReadTx off n s

/-- One step: take the next input and perform it. With no input pending nothing happens (R178). -/
def step (s : State) : Host.Outcome State Fault Refusal :=
  match s.inputs with
  | [] => .next s
  | inp :: rest => stepInput inp { s with inputs := rest }

/-- `s` with the input whose bits are `w` as the next one the host puts to the block; the inputs
already pending come after it. -/
def State.withFetchWord (s : State) (nbits w : Nat) : State :=
  { s with inputs := tableInput nbits w :: s.inputs }

end Sys2Proof.Machine
end

