-- ==== Sys2Proof/Machine/Assembler.lean ====
section
/-! DEFINITION. The assembler of R86 and the pseudo-operations of R87: a line of text is read as an
`AsmLine`, and a line stands for a list of operations. Host-side notation (D27): no step of the block
uses it (log 11). -/

namespace Sys2Proof.Machine

/-! ### What a line stands for -/

/-- The code of a `cmd` operand (R86, R69). -/
def commandOperand : CodeOperand CommandCode → Word
  | .name c => c.code
  | .number w => w

/-- The code of an `act` operand (R86, R68). -/
def actionOperand : CodeOperand ActionCode → Word
  | .name c => c.code
  | .number w => w

/-- `CHECKSUM [b0 ... bn-1]` (R87). -/
def checksumProgram (bs : List Byte) : List Instr := .crcClear :: bs.map .crcByte ++ [.crcRead]

/-- The operations a line of assembler stands for; an omitted `arg1` or `arg2` is 0 (R87, D15). -/
def assemble : AsmLine → List Instr
  | .op i => [i]
  | .txBuild dev cmd act arg1 arg2 payload =>
    [.txBuild dev (commandOperand cmd) (actionOperand act) (arg1.getD 0) (arg2.getD 0) payload]
  | .checksum bs => checksumProgram bs
  | .send dev cmd act arg1 arg2 payload =>
    [.txBuild dev (commandOperand cmd) (actionOperand act) arg1 arg2 payload, .txSerialize]
  | .rxEmpty => [.rxLoad []]

/-! ### Names (R68, R69) -/

/-- The name column of R68. -/
def ActionCode.text : ActionCode → String
  | .set => "Set"
  | .get => "Get"
  | .reset => "Reset"
  | .ack => "Ack"
  | .nak => "Nak"

/-- The rows of R68. -/
def ActionCode.all : List ActionCode := [.set, .get, .reset, .ack, .nak]

/-- The name column of R69. -/
def CommandCode.text : CommandCode → String
  | .hemisphere => "Hemisphere"
  | .filter => "Filter"
  | .tipOffset => "TipOffset"
  | .increment => "Increment"
  | .boresight => "Boresight"
  | .sensorWhoAmI => "SensorWhoAmI"
  | .framerate => "Framerate"
  | .units => "Units"
  | .sourceRotation => "SourceRotation"
  | .syncMode => "SyncMode"
  | .stationMap => "StationMap"
  | .stylus => "Stylus"
  | .seuId => "SeuId"
  | .dualOutput => "DualOutput"
  | .serialConfig => "SerialConfig"
  | .blockConfig => "BlockConfig"
  | .frameCount => "FrameCount"
  | .bit => "Bit"
  | .singlePno => "SinglePno"
  | .continuousPno => "ContinuousPno"
  | .whoAmI => "WhoAmI"
  | .initialize_ => "Initialize"
  | .persist => "Persist"
  | .enableMap => "EnableMap"
  | .fttMode => "FttMode"
  | .mapStatus => "MapStatus"
  | .sensorBlockConfig => "SensorBlockConfig"
  | .sourceConfig => "SourceConfig"
  | .predFilterConfig => "PredFilterConfig"
  | .predFilterExt => "PredFilterExt"
  | .sourceSelect => "SourceSelect"
  | .sensorOrigin => "SensorOrigin"
  | .sensorVirtual => "SensorVirtual"

/-- The rows of R69, in ordinal order. -/
def CommandCode.all : List CommandCode :=
  [.hemisphere, .filter, .tipOffset, .increment, .boresight, .sensorWhoAmI, .framerate, .units,
   .sourceRotation, .syncMode, .stationMap]
  ++ [.stylus, .seuId, .dualOutput, .serialConfig, .blockConfig, .frameCount, .bit, .singlePno,
   .continuousPno, .whoAmI, .initialize_]
  ++ [.persist, .enableMap, .fttMode, .mapStatus, .sensorBlockConfig, .sourceConfig,
   .predFilterConfig, .predFilterExt, .sourceSelect, .sensorOrigin, .sensorVirtual]

/-! ### Characters, numbers, operands -/

/-- The pieces of a text between the characters that `p` picks out. -/
def pieces (p : Char → Bool) (cs : List Char) : List (List Char) :=
  cs.foldr (fun c acc =>
    if p c then [] :: acc
    else match acc with
      | [] => [[c]]
      | w :: ws => (c :: w) :: ws) [[]]

/-- The words of a text, separated by spaces. -/
def wordsOf (cs : List Char) : List (List Char) := (pieces (· == ' ') cs).filter (! ·.isEmpty)

/-- A text without the spaces around it. -/
def trimmed (cs : List Char) : List Char :=
  (((cs.dropWhile (· == ' ')).reverse).dropWhile (· == ' ')).reverse

/-- The value of a digit in a base of at most 16. -/
def digitValue (base : Nat) (c : Char) : Option Nat :=
  let n := c.toNat
  let v :=
    if 48 ≤ n ∧ n ≤ 57 then n - 48
    else if 65 ≤ n ∧ n ≤ 70 then n - 55
    else if 97 ≤ n ∧ n ≤ 102 then n - 87
    else base
  if v < base then some v else none

/-- The value of a non-empty run of digits. -/
def digitsValue (base : Nat) : List Char → Option Nat
  | [] => none
  | cs => cs.foldl (fun acc c => do return base * (← acc) + (← digitValue base c)) (some 0)

/-- A number, decimal or `0x` hex (R86). -/
def numberValue : List Char → Option Nat
  | '0' :: 'x' :: cs => digitsValue 16 cs
  | cs => digitsValue 10 cs

/-- A number below `bound`. -/
def boundedNumber (bound : Nat) (cs : List Char) : Option Nat :=
  (numberValue cs).bind fun n => if n < bound then some n else none

/-- A u32 operand. -/
def wordText (cs : List Char) : Option Word := (boundedNumber (2 ^ 32) cs).map (BitVec.ofNat 32)

/-- A byte operand. -/
def byteText (cs : List Char) : Option Byte := (boundedNumber (2 ^ 8) cs).map (BitVec.ofNat 8)

/-- One byte of a byte sequence: two hex digits (R8). -/
def sequenceByte : List Char → Option Byte
  | [h, l] => (digitsValue 16 [h, l]).map (BitVec.ofNat 8)
  | _ => none

/-- A byte sequence `[b0 b1 ...]` (R86, R8). -/
def sequenceText (cs : List Char) : Option (List Byte) :=
  match trimmed cs with
  | '[' :: rest =>
    if rest.getLast? = some ']' then (wordsOf rest.dropLast).mapM sequenceByte else none
  | _ => none

/-- A `cmd` operand: a name of R69 or a number (R86). -/
def commandText (cs : List Char) : Option (CodeOperand CommandCode) :=
  match CommandCode.all.find? fun c => (CommandCode.text c).toList == cs with
  | some c => some (.name c)
  | none => (wordText cs).map .number

/-- An `act` operand: a name of R68 or a number (R86). -/
def actionText (cs : List Char) : Option (CodeOperand ActionCode) :=
  match ActionCode.all.find? fun c => (ActionCode.text c).toList == cs with
  | some c => some (.name c)
  | none => (wordText cs).map .number

/-! ### Lines -/

/-- A payload list that may end a TX_BUILD or a SEND: the operands before it, and the payload. -/
def withPayload (ops : List (List Char)) : Option (List (List Char) × Option (List Byte)) :=
  match ops.getLast? with
  | none => some (ops, none)
  | some o =>
    if o.head? = some '[' then (sequenceText o).map fun bs => (ops.dropLast, some bs)
    else some (ops, none)

/-- The operands of a TX_BUILD line, `arg1` and `arg2` optional (R86, R87). -/
def buildLine (ops : List (List Char)) : Option AsmLine := do
  let (ops, payload) ← withPayload ops
  match ops with
  | [dev, cmd, act] =>
    return .txBuild (← wordText dev) (← commandText cmd) (← actionText act) none none payload
  | [dev, cmd, act, a] =>
    return .txBuild (← wordText dev) (← commandText cmd) (← actionText act) (some (← wordText a))
      none payload
  | [dev, cmd, act, a, b] =>
    return .txBuild (← wordText dev) (← commandText cmd) (← actionText act) (some (← wordText a))
      (some (← wordText b)) payload
  | _ => none

/-- The operands of a SEND line (R87). -/
def sendLine (ops : List (List Char)) : Option AsmLine := do
  let (ops, payload) ← withPayload ops
  match ops with
  | [dev, cmd, act, a, b] =>
    return .send (← wordText dev) (← commandText cmd) (← actionText act) (← wordText a)
      (← wordText b) payload
  | _ => none

/-- The line of an operation of R82 with its operands (R86). A component number the row does not
admit spells no operation. -/
def operationLine (o : OpCode) (ops : List (List Char)) : Option AsmLine :=
  match o.format, ops with
  | .n, [] => some (.op (o.instr 0 [] []))
  | .b, [b] => (byteText b).map fun b => .op (o.instr b [] [])
  | .i, [i] => (wordText i).map fun i => .op (o.instr 0 [i] [])
  | .ik, [i, k] => do
    let i ← wordText i
    let k ← byteText k
    if o.subAdmitted k then return .op (o.instr k [i] []) else none
  | .bld, ops => buildLine ops
  | .ld, [bs] => (sequenceText bs).map fun bs => .op (.rxLoad bs)
  | _, _ => none

/-- A line of assembler text (R86, R87); `none` where the text is no line of it. -/
def parseLine (text : List Char) : Option AsmLine :=
  let line := trimmed text
  let name := line.takeWhile (· != ' ')
  let rest := trimmed (line.dropWhile (· != ' '))
  let ops := if rest.isEmpty then [] else (pieces (· == ',') rest).map trimmed
  match OpCode.all.find? fun o => o.mnemonic.toList == name with
  | some o => operationLine o ops
  | none =>
    if name = "CHECKSUM".toList then
      match ops with
      | [bs] => (sequenceText bs).map .checksum
      | _ => none
    else if name = "SEND".toList then sendLine ops
    else if name = "RX_EMPTY".toList ∧ ops = [] then some .rxEmpty
    else none

/-- A program: one operation or pseudo-operation a line (R86). -/
def assembleText (text : List Char) : Option (List Instr) :=
  ((pieces (· == '\n') text).mapM fun l => (parseLine l).map assemble).map List.flatten

end Sys2Proof.Machine
end

