-- ==== Sys2Proof/Safety.lean ====
section
/-! DEFINITION. The words the claims are written in: the invariant of a run, what a host can observe,
the opcode table as match and mask, and which operations belong to which part of the block. Each is
written from the spec's rules beside the model's own functions, not by calling them. -/

namespace Sys2Proof.Safety

open Sys2Proof.Machine

/-! ### The invariant -/

/-- What holds between any two steps of a block (R24 to R33, R46, R47, R49). -/
structure BlockInv (s : State) : Prop where
  /-- The receive buffer is in canonical form. -/
  rxCanonical : Memory.wf s.rxBuf = true
  /-- Every listed byte of RX has an offset below `RX_BUF_BYTES` (R40). -/
  rxInSpace : Memory.below s.cfg.rxBufBytes s.rxBuf = true
  /-- `0 ≤ rx_len ≤ RX_BUF_BYTES` (R25). -/
  rxLenFits : s.rxLen ≤ s.cfg.rxBufBytes
  /-- A length travels in one operand word (R81, R120). -/
  rxLenWord : s.rxLen < 2 ^ 32
  /-- `rx_class = classify(rx_present, rx_buf, rx_len)` (R27). -/
  rxClassLatched : s.rxClass = classify s.rxPresent s.rxBuf s.rxLen
  /-- An absent buffer has no bytes (R26, R122). -/
  rxAbsent : s.rxPresent = false → s.rxLen = 0
  /-- The transmit buffer is in canonical form. -/
  txCanonical : Memory.wf s.txBuf = true
  /-- Every listed byte of TX has an offset below the capacity (R40, R49). -/
  txInSpace : ∀ c, txCapacity s.cfg = some c → Memory.below c s.txBuf = true
  /-- No reachable state has `tx_built = false` and `tx_len > 0` (R33). -/
  txIdle : s.txBuilt = false → s.txLen = 0
  /-- `tx_size = CH + len(tx_pl) + CKW` (R31, R63). -/
  txSizeHeld : s.txBuilt = true → s.txSize.toNat = CH + s.txPl.length + CKW
  /-- `len(tx_pl) ≤ TX_MAX_PAYLOAD` (R23, R31). -/
  txPayloadFits : s.txBuilt = true → ∀ n, s.cfg.txMaxPayload = some n → s.txPl.length ≤ n
  /-- Only a Set frame carries a payload (R31, R63). -/
  txPayloadOnlySet : s.txBuilt = true → s.txAct ≠ 0 → s.txPl = []
  /-- `tx_len` is 0 or `FH + tx_size` (R33). -/
  txReadyLength : s.txLen ≠ 0 → s.txLen = FH + s.txSize.toNat
  /-- The valid bytes of TX are the latched frame (R111, R33). -/
  txReadyBytes : s.txLen ≠ 0 → Memory.readBytes s.txBuf 0 s.txLen = frameBytes s
  /-- A slice the host holds lies in the valid bytes, or is empty (R46). -/
  slicesValid : ∀ sl ∈ s.slices, sl.len = 0 ∨ sl.off + sl.len ≤ s.rxLen

/-! ### What a host can observe -/

/-- Two states that differ at most in the elements R23 calls unobservable: bytes of RX at or beyond
`rx_len`, bytes of TX at or beyond `tx_len`, and the frame registers while nothing is built. -/
structure SameVisible (a b : State) : Prop where
  cfg : a.cfg = b.cfg
  crc : a.crc = b.crc
  rxLen : a.rxLen = b.rxLen
  rxPresent : a.rxPresent = b.rxPresent
  rxClass : a.rxClass = b.rxClass
  rxBytes : ∀ i, i < a.rxLen → Memory.read a.rxBuf i = Memory.read b.rxBuf i
  txBuilt : a.txBuilt = b.txBuilt
  txFrame : a.txBuilt = true →
    a.txDev = b.txDev ∧ a.txCmd = b.txCmd ∧ a.txAct = b.txAct ∧ a.txArg1 = b.txArg1
      ∧ a.txArg2 = b.txArg2 ∧ a.txSize = b.txSize ∧ a.txPl = b.txPl
  txLen : a.txLen = b.txLen
  txBytes : ∀ i, i < a.txLen → Memory.read a.txBuf i = Memory.read b.txBuf i
  inputs : a.inputs = b.inputs
  outputs : a.outputs = b.outputs
  slices : a.slices = b.slices

/-- Two outcomes a host cannot tell apart. -/
def SameOutcome : Result → Result → Prop
  | .next a, .next b => SameVisible a b
  | .fault f, .fault g => f = g
  | .refused r, .refused q => r = q
  | _, _ => False

/-! ### Responses -/

/-- `s` with one more response and nothing else changed. -/
def answered (s : State) (r : Response) : State :=
  { s with outputs := s.outputs ++ [.response r] }

/-- The response `(OK, v, 0, 0)` (R84). -/
def okValue (v : Word) : Response := { status := .ok, value := v, off := 0, len := 0 }

/-- The response of a status that is not OK: value, off and len are 0 (R84). -/
def notOk (st : Status) : Response := { status := st, value := 0, off := 0, len := 0 }

/-- The unsigned little-endian value of the four bytes of a space from `off` (R43). -/
def leNat (m : Memory) (off : Nat) : Nat :=
  (Memory.read m off).toNat + 2 ^ 8 * (Memory.read m (off + 1)).toNat
    + 2 ^ 16 * (Memory.read m (off + 2)).toNat + 2 ^ 24 * (Memory.read m (off + 3)).toNat

/-- Run operations one after the other (R50). -/
def runInstrs : List Instr → State → Result
  | [], s => .next s
  | i :: p, s =>
    match exec i s with
    | .next t => runInstrs p t
    | .fault f => .fault f
    | .refused r => .refused r

/-! ### Which operations -/

/-- The operations of R45 whose rule writes no state. -/
def readsOnly : Instr → Bool
  | .crcClear => false
  | .crcByte _ => false
  | .crcRead => true
  | .txBuild _ _ _ _ _ _ => false
  | .txSerialize => false
  | .txLength => true
  | .rxLoad _ => false
  | .rxRelease => false
  | .rxClassify => true
  | .rxSize => true
  | .rxComplete => true
  | .rxVerify => true
  | .cmdCommand => true
  | .cmdAction => true
  | .cmdDeviceId => true
  | .cmdIsAck => true
  | .cmdIsNak => true
  | .cmdPayload => true
  | .tlmDeviceId => true
  | .tlmFrameCounter => true
  | .tlmSensorCount => true
  | .tlmPayload => true
  | .tlmSensorRecord _ => true
  | .srInfo _ => true
  | .srSensorNumber _ => true
  | .srIsVirtual _ => true
  | .srPositionUnits _ => true
  | .srOrientationUnits _ => true
  | .srButton0 _ => true
  | .srButton1 _ => true
  | .srDistortionLevel _ => true
  | .srAuxInput _ => true
  | .srPosition _ _ => true
  | .srOrientation _ _ => true
  | .frameCommand _ => false
  | .frameTelemetry _ => false

/-- The CMD_* operations (R140). -/
def commandAccessor : Instr → Bool
  | .crcClear => false
  | .crcByte _ => false
  | .crcRead => false
  | .txBuild _ _ _ _ _ _ => false
  | .txSerialize => false
  | .txLength => false
  | .rxLoad _ => false
  | .rxRelease => false
  | .rxClassify => false
  | .rxSize => false
  | .rxComplete => false
  | .rxVerify => false
  | .cmdCommand => true
  | .cmdAction => true
  | .cmdDeviceId => true
  | .cmdIsAck => true
  | .cmdIsNak => true
  | .cmdPayload => true
  | .tlmDeviceId => false
  | .tlmFrameCounter => false
  | .tlmSensorCount => false
  | .tlmPayload => false
  | .tlmSensorRecord _ => false
  | .srInfo _ => false
  | .srSensorNumber _ => false
  | .srIsVirtual _ => false
  | .srPositionUnits _ => false
  | .srOrientationUnits _ => false
  | .srButton0 _ => false
  | .srButton1 _ => false
  | .srDistortionLevel _ => false
  | .srAuxInput _ => false
  | .srPosition _ _ => false
  | .srOrientation _ _ => false
  | .frameCommand _ => false
  | .frameTelemetry _ => false

/-- The TLM_* and SR_* operations (R150, R156). -/
def telemetryAccessor : Instr → Bool
  | .crcClear => false
  | .crcByte _ => false
  | .crcRead => false
  | .txBuild _ _ _ _ _ _ => false
  | .txSerialize => false
  | .txLength => false
  | .rxLoad _ => false
  | .rxRelease => false
  | .rxClassify => false
  | .rxSize => false
  | .rxComplete => false
  | .rxVerify => false
  | .cmdCommand => false
  | .cmdAction => false
  | .cmdDeviceId => false
  | .cmdIsAck => false
  | .cmdIsNak => false
  | .cmdPayload => false
  | .tlmDeviceId => true
  | .tlmFrameCounter => true
  | .tlmSensorCount => true
  | .tlmPayload => true
  | .tlmSensorRecord _ => true
  | .srInfo _ => true
  | .srSensorNumber _ => true
  | .srIsVirtual _ => true
  | .srPositionUnits _ => true
  | .srOrientationUnits _ => true
  | .srButton0 _ => true
  | .srButton1 _ => true
  | .srDistortionLevel _ => true
  | .srAuxInput _ => true
  | .srPosition _ _ => true
  | .srOrientation _ _ => true
  | .frameCommand _ => false
  | .frameTelemetry _ => false

/-- The operations that read a frame: RX_SIZE, RX_COMPLETE, RX_VERIFY, CMD_*, TLM_* and SR_* (R170). -/
def readsFrame : Instr → Bool
  | .crcClear => false
  | .crcByte _ => false
  | .crcRead => false
  | .txBuild _ _ _ _ _ _ => false
  | .txSerialize => false
  | .txLength => false
  | .rxLoad _ => false
  | .rxRelease => false
  | .rxClassify => false
  | .rxSize => true
  | .rxComplete => true
  | .rxVerify => true
  | .cmdCommand => true
  | .cmdAction => true
  | .cmdDeviceId => true
  | .cmdIsAck => true
  | .cmdIsNak => true
  | .cmdPayload => true
  | .tlmDeviceId => true
  | .tlmFrameCounter => true
  | .tlmSensorCount => true
  | .tlmPayload => true
  | .tlmSensorRecord _ => true
  | .srInfo _ => true
  | .srSensorNumber _ => true
  | .srIsVirtual _ => true
  | .srPositionUnits _ => true
  | .srOrientationUnits _ => true
  | .srButton0 _ => true
  | .srButton1 _ => true
  | .srDistortionLevel _ => true
  | .srAuxInput _ => true
  | .srPosition _ _ => true
  | .srOrientation _ _ => true
  | .frameCommand _ => false
  | .frameTelemetry _ => false

/-- The CRC_* operations (R22). -/
def crcOperation : Instr → Bool
  | .crcClear => true
  | .crcByte _ => true
  | .crcRead => true
  | .txBuild _ _ _ _ _ _ => false
  | .txSerialize => false
  | .txLength => false
  | .rxLoad _ => false
  | .rxRelease => false
  | .rxClassify => false
  | .rxSize => false
  | .rxComplete => false
  | .rxVerify => false
  | .cmdCommand => false
  | .cmdAction => false
  | .cmdDeviceId => false
  | .cmdIsAck => false
  | .cmdIsNak => false
  | .cmdPayload => false
  | .tlmDeviceId => false
  | .tlmFrameCounter => false
  | .tlmSensorCount => false
  | .tlmPayload => false
  | .tlmSensorRecord _ => false
  | .srInfo _ => false
  | .srSensorNumber _ => false
  | .srIsVirtual _ => false
  | .srPositionUnits _ => false
  | .srOrientationUnits _ => false
  | .srButton0 _ => false
  | .srButton1 _ => false
  | .srDistortionLevel _ => false
  | .srAuxInput _ => false
  | .srPosition _ _ => false
  | .srOrientation _ _ => false
  | .frameCommand _ => false
  | .frameTelemetry _ => false

/-- The operations that replace the received buffer: RX_LOAD and RX_RELEASE (R53), and the delivery of a
wire frame, which is an RX_LOAD (log 4). -/
def loadsOrReleases : Instr → Bool
  | .crcClear => false
  | .crcByte _ => false
  | .crcRead => false
  | .txBuild _ _ _ _ _ _ => false
  | .txSerialize => false
  | .txLength => false
  | .rxLoad _ => true
  | .rxRelease => true
  | .rxClassify => false
  | .rxSize => false
  | .rxComplete => false
  | .rxVerify => false
  | .cmdCommand => false
  | .cmdAction => false
  | .cmdDeviceId => false
  | .cmdIsAck => false
  | .cmdIsNak => false
  | .cmdPayload => false
  | .tlmDeviceId => false
  | .tlmFrameCounter => false
  | .tlmSensorCount => false
  | .tlmPayload => false
  | .tlmSensorRecord _ => false
  | .srInfo _ => false
  | .srSensorNumber _ => false
  | .srIsVirtual _ => false
  | .srPositionUnits _ => false
  | .srOrientationUnits _ => false
  | .srButton0 _ => false
  | .srButton1 _ => false
  | .srDistortionLevel _ => false
  | .srAuxInput _ => false
  | .srPosition _ _ => false
  | .srOrientation _ _ => false
  | .frameCommand _ => true
  | .frameTelemetry _ => true

/-- One past the last byte of RX a header accessor or a frame operation needs before it looks at
`size` (the `end` of R140 and R150, `FH` of R124); `none` for the rest. -/
def headerEnd : Instr → Option Nat
  | .crcClear => none
  | .crcByte _ => none
  | .crcRead => none
  | .txBuild _ _ _ _ _ _ => none
  | .txSerialize => none
  | .txLength => none
  | .rxLoad _ => none
  | .rxRelease => none
  | .rxClassify => none
  | .rxSize => some 8
  | .rxComplete => some 8
  | .rxVerify => some 8
  | .cmdCommand => some 16
  | .cmdAction => some 20
  | .cmdDeviceId => some 12
  | .cmdIsAck => some 20
  | .cmdIsNak => some 20
  | .cmdPayload => some 8
  | .tlmDeviceId => some 12
  | .tlmFrameCounter => some 16
  | .tlmSensorCount => some 24
  | .tlmPayload => some 8
  | .tlmSensorRecord _ => none
  | .srInfo _ => none
  | .srSensorNumber _ => none
  | .srIsVirtual _ => none
  | .srPositionUnits _ => none
  | .srOrientationUnits _ => none
  | .srButton0 _ => none
  | .srButton1 _ => none
  | .srDistortionLevel _ => none
  | .srAuxInput _ => none
  | .srPosition _ _ => none
  | .srOrientation _ _ => none
  | .frameCommand _ => none
  | .frameTelemetry _ => none

/-- The record a record accessor names. -/
def recordIndex : Instr → Option Word
  | .crcClear => none
  | .crcByte _ => none
  | .crcRead => none
  | .txBuild _ _ _ _ _ _ => none
  | .txSerialize => none
  | .txLength => none
  | .rxLoad _ => none
  | .rxRelease => none
  | .rxClassify => none
  | .rxSize => none
  | .rxComplete => none
  | .rxVerify => none
  | .cmdCommand => none
  | .cmdAction => none
  | .cmdDeviceId => none
  | .cmdIsAck => none
  | .cmdIsNak => none
  | .cmdPayload => none
  | .tlmDeviceId => none
  | .tlmFrameCounter => none
  | .tlmSensorCount => none
  | .tlmPayload => none
  | .tlmSensorRecord index => some index
  | .srInfo index => some index
  | .srSensorNumber index => some index
  | .srIsVirtual index => some index
  | .srPositionUnits index => some index
  | .srOrientationUnits index => some index
  | .srButton0 index => some index
  | .srButton1 index => some index
  | .srDistortionLevel index => some index
  | .srAuxInput index => some index
  | .srPosition index _ => some index
  | .srOrientation index _ => some index
  | .frameCommand _ => none
  | .frameTelemetry _ => none

/-- The conditions under which `resolve_record(index)` gives an offset (R156). -/
structure RecordReadable (s : State) (index : Word) : Prop where
  telemetry : s.rxClass = .telemetry
  headerPresent : 24 ≤ s.rxLen
  inCount : index.toNat < leNat s.rxBuf 20
  inBuffer : 24 + 32 * index.toNat + 32 ≤ s.rxLen

/-! ### The opcode table as match and mask (R82, spec/opcode_table.json) -/

/-- A request row: the operation, its match and mask columns and its format. -/
structure RequestRow where
  mnemonic : String
  pattern  : Word
  mask     : Word
  format   : Format
  deriving DecidableEq, Repr

/-- The request rows, in the table's order. -/
def requestRows : List RequestRow :=
  [⟨"CRC_CLEAR", 0x00000001, 0xFFFFFFFF, .n⟩,
     ⟨"CRC_BYTE", 0x00000002, 0xFFFF00FF, .b⟩,
     ⟨"CRC_READ", 0x00000003, 0xFFFFFFFF, .n⟩,
     ⟨"TX_BUILD", 0x00000010, 0xFFFFFEFF, .bld⟩,
     ⟨"TX_SERIALIZE", 0x00000011, 0xFFFFFFFF, .n⟩,
     ⟨"TX_LENGTH", 0x00000012, 0xFFFFFFFF, .n⟩,
     ⟨"RX_LOAD", 0x00000020, 0xFFFFFFFF, .ld⟩,
     ⟨"RX_RELEASE", 0x00000021, 0xFFFFFFFF, .n⟩,
     ⟨"RX_CLASSIFY", 0x00000022, 0xFFFFFFFF, .n⟩,
     ⟨"RX_SIZE", 0x00000023, 0xFFFFFFFF, .n⟩,
     ⟨"RX_COMPLETE", 0x00000024, 0xFFFFFFFF, .n⟩,
     ⟨"RX_VERIFY", 0x00000025, 0xFFFFFFFF, .n⟩]
  ++ [⟨"CMD_COMMAND", 0x00000030, 0xFFFFFFFF, .n⟩,
     ⟨"CMD_ACTION", 0x00000031, 0xFFFFFFFF, .n⟩,
     ⟨"CMD_DEVICE_ID", 0x00000032, 0xFFFFFFFF, .n⟩,
     ⟨"CMD_IS_ACK", 0x00000033, 0xFFFFFFFF, .n⟩,
     ⟨"CMD_IS_NAK", 0x00000034, 0xFFFFFFFF, .n⟩,
     ⟨"CMD_PAYLOAD", 0x00000035, 0xFFFFFFFF, .n⟩,
     ⟨"TLM_DEVICE_ID", 0x00000040, 0xFFFFFFFF, .n⟩,
     ⟨"TLM_FRAME_COUNTER", 0x00000041, 0xFFFFFFFF, .n⟩,
     ⟨"TLM_SENSOR_COUNT", 0x00000042, 0xFFFFFFFF, .n⟩,
     ⟨"TLM_PAYLOAD", 0x00000043, 0xFFFFFFFF, .n⟩,
     ⟨"TLM_SENSOR_RECORD", 0x00000044, 0xFFFFFFFF, .i⟩,
     ⟨"SR_INFO", 0x00000050, 0xFFFFFFFF, .i⟩]
  ++ [⟨"SR_SENSOR_NUMBER", 0x00000051, 0xFFFFFFFF, .i⟩,
     ⟨"SR_IS_VIRTUAL", 0x00000052, 0xFFFFFFFF, .i⟩,
     ⟨"SR_POSITION_UNITS", 0x00000053, 0xFFFFFFFF, .i⟩,
     ⟨"SR_ORIENTATION_UNITS", 0x00000054, 0xFFFFFFFF, .i⟩,
     ⟨"SR_BUTTON0", 0x00000055, 0xFFFFFFFF, .i⟩,
     ⟨"SR_BUTTON1", 0x00000056, 0xFFFFFFFF, .i⟩,
     ⟨"SR_DISTORTION_LEVEL", 0x00000057, 0xFFFFFFFF, .i⟩,
     ⟨"SR_AUX_INPUT", 0x00000058, 0xFFFFFFFF, .i⟩,
     ⟨"SR_POSITION", 0x00000059, 0xFFFFFCFF, .ik⟩,
     ⟨"SR_ORIENTATION", 0x0000005A, 0xFFFFFCFF, .ik⟩]

/-- The largest `sub` a row's constraint column admits beyond its mask (R82). -/
def RequestRow.subBound (row : RequestRow) : Nat :=
  if row.mnemonic = "SR_POSITION" then 2 else if row.mnemonic = "SR_ORIENTATION" then 3 else 255

/-- Whether a request is spelt by a row: the masked word, the extra constraint, and the operand words
and byte block of the row's format (R81, R82, R85). -/
structure RequestRow.Spells (row : RequestRow) (r : Request) : Prop where
  word : r.word &&& row.mask = row.pattern
  sub : (r.word >>> 8).toNat % 256 ≤ row.subBound
  operands : r.words.length =
    match row.format with
    | .n => 0
    | .b => 0
    | .i => 1
    | .ik => 1
    | .ld => 1
    | .bld => 5 + (r.word >>> 8).toNat % 256
  bytes : r.block.length =
    match row.format, r.words with
    | .bld, [_, _, _, _, _, plen] => plen.toNat
    | .ld, [n] => n.toNat
    | _, _ => 0

/-- The match column of an operation's row. -/
def rowPattern : Instr → Word
  | .crcClear => 0x00000001
  | .crcByte _ => 0x00000002
  | .crcRead => 0x00000003
  | .txBuild _ _ _ _ _ _ => 0x00000010
  | .txSerialize => 0x00000011
  | .txLength => 0x00000012
  | .rxLoad _ => 0x00000020
  | .rxRelease => 0x00000021
  | .rxClassify => 0x00000022
  | .rxSize => 0x00000023
  | .rxComplete => 0x00000024
  | .rxVerify => 0x00000025
  | .cmdCommand => 0x00000030
  | .cmdAction => 0x00000031
  | .cmdDeviceId => 0x00000032
  | .cmdIsAck => 0x00000033
  | .cmdIsNak => 0x00000034
  | .cmdPayload => 0x00000035
  | .tlmDeviceId => 0x00000040
  | .tlmFrameCounter => 0x00000041
  | .tlmSensorCount => 0x00000042
  | .tlmPayload => 0x00000043
  | .tlmSensorRecord _ => 0x00000044
  | .srInfo _ => 0x00000050
  | .srSensorNumber _ => 0x00000051
  | .srIsVirtual _ => 0x00000052
  | .srPositionUnits _ => 0x00000053
  | .srOrientationUnits _ => 0x00000054
  | .srButton0 _ => 0x00000055
  | .srButton1 _ => 0x00000056
  | .srDistortionLevel _ => 0x00000057
  | .srAuxInput _ => 0x00000058
  | .srPosition _ _ => 0x00000059
  | .srOrientation _ _ => 0x0000005A
  | .frameCommand _ => 0x42525056
  | .frameTelemetry _ => 0x50525056

/-! ### References -/

/-- One shift of the reflected CRC-16 with polynomial 0xA001 (C7, GK4). -/
def arcShift (c : Half) : Half := if c.getLsbD 0 then (c >>> 1) ^^^ 0xA001 else c >>> 1

/-- One byte of the CRC-16 variant C7 names, bit by bit (C7, GK4). -/
def arcStep (crc : Half) (b : Byte) : Half :=
  arcShift (arcShift (arcShift (arcShift (arcShift (arcShift (arcShift (arcShift
    (crc ^^^ b.setWidth 16))))))))

/-- The wire bytes of the command preamble (R61). -/
def commandMark : List Byte := [0x56, 0x50, 0x52, 0x42]

/-- The wire bytes of the telemetry preamble (R61). -/
def telemetryMark : List Byte := [0x56, 0x50, 0x52, 0x50]

/-- The class R28's table gives a loaded buffer, by its length and its first four bytes. -/
def classOfBytes (bs : List Byte) : FrameClass :=
  if bs.length = 0 then .empty
  else if bs.length ≤ 3 then .unknown
  else if bs.take 4 = commandMark then .command
  else if bs.take 4 = telemetryMark then .telemetry
  else .unknown

/-- The buffer an operation loads, if it loads one. -/
def loadedBytes : Instr → Option (List Byte)
  | .crcClear => none
  | .crcByte _ => none
  | .crcRead => none
  | .txBuild _ _ _ _ _ _ => none
  | .txSerialize => none
  | .txLength => none
  | .rxLoad bs => some bs
  | .rxRelease => none
  | .rxClassify => none
  | .rxSize => none
  | .rxComplete => none
  | .rxVerify => none
  | .cmdCommand => none
  | .cmdAction => none
  | .cmdDeviceId => none
  | .cmdIsAck => none
  | .cmdIsNak => none
  | .cmdPayload => none
  | .tlmDeviceId => none
  | .tlmFrameCounter => none
  | .tlmSensorCount => none
  | .tlmPayload => none
  | .tlmSensorRecord _ => none
  | .srInfo _ => none
  | .srSensorNumber _ => none
  | .srIsVirtual _ => none
  | .srPositionUnits _ => none
  | .srOrientationUnits _ => none
  | .srButton0 _ => none
  | .srButton1 _ => none
  | .srDistortionLevel _ => none
  | .srAuxInput _ => none
  | .srPosition _ _ => none
  | .srOrientation _ _ => none
  | .frameCommand rest => some (commandMark ++ rest)
  | .frameTelemetry rest => some (telemetryMark ++ rest)

/-- The states of the transmit side (R33). -/
inductive TxState where
  | idle | built | ready
  deriving DecidableEq, Repr

/-- The transmit side of a state, where it is one of R33's three. -/
def txState (s : State) : Option TxState :=
  if s.txBuilt = false then (if s.txLen = 0 then some .idle else none)
  else if s.txLen = 0 then some .built
  else if s.txLen = 8 + s.txSize.toNat then some .ready
  else none

/-- The payload a TX_BUILD carries: the supplied one for the action Set (0), else none (R110). -/
def keptPayload (act : Word) (payload : Option (List Byte)) : List Byte :=
  if act = 0 then payload.getD [] else []

/-- R110's test of a payload length against `TX_MAX_PAYLOAD` and the u32 `size`. -/
def PayloadFits (c : Config) (p : Nat) : Prop :=
  (∀ n, c.txMaxPayload = some n → p ≤ n) ∧ 24 + p ≤ 2 ^ 32 - 1

end Sys2Proof.Safety
end

