-- ==== Sys2Proof/Certificates/Slice0/Obligations.lean ====
section
/-! DEFINITION. The statements put to the provers. Each says which rule of the spec it formalises. A
statement about a next state gives that state as the old one with the changed fields named, so that it
is also the frame: what it does not name is unchanged, every byte of both buffers included. -/

open Sys2Proof Sys2Proof.Machine Sys2Proof.Safety

/-! ### Encoding -/

/-- Request words written out from R82's table, and the two preambles of R61, decode to their rows:
`CRC_BYTE 0x5A`, `TX_BUILD` without and with a payload, `RX_LOAD`, `CMD_COMMAND`, `TLM_SENSOR_RECORD`,
`SR_POSITION` with `k = 2`; a set reserved bit, op 0x00 and `k = 3` are refused. -/
def Obligations.TableWordsDecode : Prop :=
  decodeRequest ⟨0x00005A02, [], []⟩ = some (.crcByte 0x5A)
  ∧ decodeRequest ⟨0x00000010, [7, 10, 1, 0, 0], []⟩ = some (.txBuild 7 10 1 0 0 none)
  ∧ decodeRequest ⟨0x00000110, [1, 7, 0, 0, 0, 3], [0xAA, 0xBB, 0xCC]⟩
      = some (.txBuild 1 7 0 0 0 (some [0xAA, 0xBB, 0xCC]))
  ∧ decodeRequest ⟨0x00000020, [2], [0x56, 0x50]⟩ = some (.rxLoad [0x56, 0x50])
  ∧ decodeRequest ⟨0x00000030, [], []⟩ = some .cmdCommand
  ∧ decodeRequest ⟨0x00000044, [9], []⟩ = some (.tlmSensorRecord 9)
  ∧ decodeRequest ⟨0x00000259, [1], []⟩ = some (.srPosition 1 2)
  ∧ decodeRequest ⟨0x00010001, [], []⟩ = none
  ∧ decodeRequest ⟨0x00000000, [], []⟩ = none
  ∧ decodeRequest ⟨0x00000359, [0], []⟩ = none
  ∧ decodeFrame [0x56, 0x50, 0x52, 0x42, 0x18] = some (.frameCommand [0x18])
  ∧ decodeFrame [0x56, 0x50, 0x52, 0x50] = some (.frameTelemetry [])

/-- Decoding the encoding of a well-formed operation gives it back, whatever its operands (R81, R82,
R85; for the two wire-frame rows R61). -/
def Obligations.DecodeOfEncodeIsIdentity : Prop :=
  ∀ i : Instr, WellFormed i = true → decodeInput (encode i) = some i

/-- Every request that decodes is the encoding of what it decodes to, and that is well formed: no two
requests spell one operation, and no bit of a request is dropped (R80 to R85). -/
def Obligations.EncodeOfDecodeIsIdentity : Prop :=
  ∀ (r : Request) (i : Instr), decodeRequest r = some i →
    WellFormed i = true ∧ encode i = .request r

/-- R85 against the match and mask columns of R82: a request decodes exactly when some row of the
opcode table spells it, and then to that row's operation. -/
def Obligations.DecoderMatchesOpcodeTable : Prop :=
  ∀ r : Request,
    ((decodeRequest r).isSome = true ↔ ∃ row ∈ requestRows, row.Spells r)
    ∧ ∀ i row, decodeRequest r = some i → row ∈ requestRows → row.Spells r →
        row.mnemonic = i.mnemonic

/-- No request word matches two rows of R82. -/
def Obligations.RowsOfTableAreDisjoint : Prop :=
  ∀ (w : Word) (a b : RequestRow), a ∈ requestRows → b ∈ requestRows →
    w &&& a.mask = a.pattern → w &&& b.mask = b.pattern → a = b

/-! ### Steps -/

/-- When the next input decodes to an operation, a step is that operation's meaning at the state with
the input taken off. -/
def Obligations.StepRunsDecodedOperation : Prop :=
  ∀ (s : State) (inp : Input) (rest : List Input) (i : Instr),
    s.inputs = inp :: rest → decodeInput inp = some i →
      step s = exec i { s with inputs := rest }

/-- R176: a request that spells no operation is answered BAD_OPERATION and writes no state, whatever
its `op` names. -/
def Obligations.MalformedRequestChangesNothing : Prop :=
  ∀ (s : State) (r : Request) (rest : List Input),
    s.inputs = .request r :: rest → (∀ row ∈ requestRows, ¬ row.Spells r) →
      step s = .next { s with
        inputs := rest
        outputs := s.outputs ++ [.response (notOk .badOperation)] }

/-- R199, R172: every request is answered, by exactly one response, and the block is then ready for
the next input; the parameters are as before (R192). -/
def Obligations.EveryRequestIsAnsweredOnce : Prop :=
  ∀ (s : State) (r : Request) (rest : List Input), s.inputs = .request r :: rest →
    ∃ t resp, step s = .next t ∧ t.inputs = rest ∧ t.cfg = s.cfg
      ∧ t.outputs = s.outputs ++ [.response resp]

/-- With no input pending a step changes nothing. The idle step is the model's form (log 5) of R178's
"Nothing happens in the block except in answer to a request". -/
def Obligations.NothingHappensWithoutInput : Prop :=
  ∀ s : State, s.inputs = [] → step s = .next s

/-- R192: no step changes the parameters. -/
def Obligations.ParametersNeverChange : Prop :=
  ∀ s t : State, step s = .next t → t.cfg = s.cfg

/-! ### The invariant -/

/-- The invariant holds right after reset, for every value of the parameters. -/
def Obligations.InvariantAtReset : Prop := ∀ c : Config, BlockInv (State.resetWith c)

/-- Every step keeps the invariant: R24 to R33, R46, R49 at every point between operations. -/
def Obligations.StepKeepsInvariant : Prop :=
  ∀ s t : State, BlockInv s → step s = .next t → BlockInv t

/-- R23: the elements a reset leaves at any value, and the bytes beyond `rx_len` and `tx_len` (R47),
are never observed. Two states that differ in nothing else take steps a host cannot tell apart, and
stay so. The model's own reset values (log 3) therefore reach no response. -/
def Obligations.UnwrittenElementsAreUnobservable : Prop :=
  ∀ a b : State, BlockInv a → BlockInv b → SameVisible a b → SameOutcome (step a) (step b)

/-! ### Rules about every operation -/

/-- R84 and R172: a response whose status is not OK has value, off and len 0. The operation wrote
nothing but that response, except TX_BUILD and the loads (RX_LOAD and the two wire-frame rows, log 4),
whose failure discards stale data (R177). -/
def Obligations.NonOkStatusCarriesZerosAndOnlyBuildOrLoadWrites : Prop :=
  ∀ (i : Instr) (s t : State) (r : Response),
    exec i s = .next t → t.outputs = s.outputs ++ [.response r] → r.status ≠ .ok →
      r = notOk r.status
      ∧ ((∀ dev cmd act a1 a2 p, i ≠ .txBuild dev cmd act a1 a2 p) → loadedBytes i = none →
          t = answered s r)

/-- R45: the operations whose rule writes no state answer, and change no element of R23's tuple; the
slices the host may read (R46) are all that can grow. -/
def Obligations.ReadingOperationsWriteNothing : Prop :=
  ∀ (i : Instr) (s : State), readsOnly i = true →
    ∃ r sls, exec i s = .next { answered s r with slices := sls } ∧ ∀ sl ∈ s.slices, sl ∈ sls

/-- R45: an operation whose rule writes no state, issued twice in a row, gives the same response
twice, and the second issue changes nothing more. -/
def Obligations.ReadingOperationsAreIdempotent : Prop :=
  ∀ (i : Instr) (s t : State) (r : Response), readsOnly i = true →
    exec i s = .next t → t.outputs = s.outputs ++ [.response r] → exec i t = .next (answered t r)

/-- R45, R111: TX_SERIALIZE twice without a TX_BUILD between gives the same response and the same
bytes. -/
def Obligations.SerializeTwiceGivesTheSameBytes : Prop :=
  ∀ (s t : State) (r : Response), BlockInv s → exec .txSerialize s = .next t →
    t.outputs = s.outputs ++ [.response r] → exec .txSerialize t = .next (answered t r)

/-- R22: no operation but CRC_CLEAR and CRC_BYTE writes `crc`, and CRC_* operations write nothing
else. -/
def Obligations.OnlyChecksumOperationsWriteCrc : Prop :=
  ∀ (i : Instr) (s t : State), exec i s = .next t →
    (crcOperation i = false → t.crc = s.crc)
    ∧ (crcOperation i = true → t = { s with crc := t.crc, outputs := t.outputs })

/-- R53, R195: nothing but RX_LOAD and RX_RELEASE (and the delivery of a wire frame, log 4) changes the
received bytes, their length, their presence or their class. -/
def Obligations.OnlyLoadAndReleaseChangeReceivedBytes : Prop :=
  ∀ (i : Instr) (s t : State), loadsOrReleases i = false → exec i s = .next t →
    t.rxBuf = s.rxBuf ∧ t.rxLen = s.rxLen ∧ t.rxPresent = s.rxPresent ∧ t.rxClass = s.rxClass

/-- R29 to R32: only TX_BUILD writes the built frame, only TX_SERIALIZE writes the transmit buffer, and
no other operation changes `tx_len`. -/
def Obligations.OnlyBuildAndSerializeChangeTransmitState : Prop :=
  ∀ (i : Instr) (s t : State), exec i s = .next t →
    ((∀ dev cmd act a1 a2 p, i ≠ .txBuild dev cmd act a1 a2 p) →
      t.txBuilt = s.txBuilt ∧ t.txDev = s.txDev ∧ t.txCmd = s.txCmd ∧ t.txAct = s.txAct
      ∧ t.txArg1 = s.txArg1 ∧ t.txArg2 = s.txArg2 ∧ t.txSize = s.txSize ∧ t.txPl = s.txPl
      ∧ (i ≠ .txSerialize → t.txLen = s.txLen))
    ∧ (i ≠ .txSerialize → t.txBuf = s.txBuf)

/-- R28: the transitions of the frame parser state machine. A load goes to the class of the loaded
bytes, or to EMPTY where they do not fit; RX_RELEASE goes to EMPTY; every other operation stays. -/
def Obligations.FrameParserTransitions : Prop :=
  ∀ (i : Instr) (s t : State), BlockInv s → exec i s = .next t →
    (∀ bs, loadedBytes i = some bs → bs.length ≤ s.cfg.rxBufBytes → t.rxClass = classOfBytes bs)
    ∧ (∀ bs, loadedBytes i = some bs → s.cfg.rxBufBytes < bs.length → t.rxClass = .empty)
    ∧ (i = .rxRelease → t.rxClass = .empty)
    ∧ (loadsOrReleases i = false → t.rxClass = s.rxClass)

/-- R33: the transitions of the transmit side. Every state is in one of its three states. -/
def Obligations.TransmitSideTransitions : Prop :=
  ∀ (i : Instr) (s t : State), BlockInv s → exec i s = .next t →
    ∃ x, txState s = some x
    ∧ (∀ dev cmd act a1 a2 p, i = .txBuild dev cmd act a1 a2 p →
        (PayloadFits s.cfg (keptPayload act p).length → txState t = some .built)
        ∧ (¬ PayloadFits s.cfg (keptPayload act p).length → txState t = some .idle))
    ∧ (i = .txSerialize → txState t = some (if x = .idle then .idle else .ready))
    ∧ ((∀ dev cmd act a1 a2 p, i ≠ .txBuild dev cmd act a1 a2 p) → i ≠ .txSerialize →
        txState t = some x)

/-- R46: a slice an OK response names lies in the valid bytes of RX, or is empty. -/
def Obligations.SlicesLieInReceivedBytes : Prop :=
  ∀ (i : Instr) (s t : State) (r : Response), BlockInv s → exec i s = .next t →
    t.outputs = s.outputs ++ [.response r] → r.status = .ok →
      r.off.toNat + r.len.toNat ≤ t.rxLen ∨ r.len = 0

/-- R173, R124, R140, R150, R156: a well-formed frame operation on a class it does not serve raises
that class's status, before any other check: NA_EMPTY, NA_UNKNOWN, and NA_FAMILY for the other
family. -/
def Obligations.ClassDecidesNotApplicable : Prop :=
  ∀ (i : Instr) (s : State), WellFormed i = true →
    (readsFrame i = true → s.rxClass = .empty → exec i s = .next (answered s (notOk .naEmpty)))
    ∧ (readsFrame i = true → s.rxClass = .unknown →
        exec i s = .next (answered s (notOk .naUnknown)))
    ∧ (commandAccessor i = true → s.rxClass = .telemetry →
        exec i s = .next (answered s (notOk .naFamily)))
    ∧ (telemetryAccessor i = true → s.rxClass = .command →
        exec i s = .next (answered s (notOk .naFamily)))

/-- R47, R124, R140, R150: an operation that needs header bytes beyond `rx_len` raises NA_TRUNCATED. -/
def Obligations.HeaderBeyondBufferIsTruncated : Prop :=
  ∀ (i : Instr) (e : Nat) (s : State), headerEnd i = some e → s.rxLen < e →
    (s.rxClass = .command ∧ telemetryAccessor i = false
      ∨ s.rxClass = .telemetry ∧ commandAccessor i = false) →
    exec i s = .next (answered s (notOk .naTruncated))

/-- R156: on a telemetry frame a record that cannot be read is INDEX_OUT_OF_RANGE: `sensor_count` not
in the buffer, an index not below it, or the record not wholly in the buffer. -/
def Obligations.UnreadableRecordIsOutOfRange : Prop :=
  ∀ (i : Instr) (index : Word) (s : State), WellFormed i = true → recordIndex i = some index →
    s.rxClass = .telemetry →
    (s.rxLen < 24 ∨ leNat s.rxBuf 20 ≤ index.toNat ∨ s.rxLen < 24 + 32 * index.toNat + 32) →
    exec i s = .next (answered s (notOk .indexOutOfRange))

/-! ### Checksum generator -/

/-- R102, R103, R104: CRC_CLEAR sets the accumulator to 0, CRC_BYTE applies one checksum step, and
CRC_READ returns the accumulator zero-extended. -/
def Obligations.ChecksumOperationsEffect : Prop :=
  ∀ (s : State) (b : Byte),
    exec .crcClear s = .next { answered s (okValue 0) with crc := 0x0000 }
    ∧ exec (.crcByte b) s = .next { answered s (okValue 0) with crc := crcStep s.crc b }
    ∧ ∃ v : Word, v.toNat = s.crc.toNat ∧ exec .crcRead s = .next (answered s (okValue v))

/-- C7: the step of R100 is, on every accumulator and byte, the step of the reflected CRC-16 with
polynomial 0xA001. The spec's author tested this on random inputs (GK4); no rule depends on it. -/
def Obligations.ChecksumStepIsReflectedCrc16 : Prop :=
  ∀ (crc : Half) (b : Byte), crcStep crc b = arcStep crc b

/-- R105: CRC_CLEAR and one CRC_BYTE per byte leave the checksum of the bytes in `crc`, where CRC_READ
finds it, whatever other operations the host interleaves. -/
def Obligations.InterleavedChecksumSequence : Prop :=
  ∀ (p : List Instr) (bs : List Byte) (s : State),
    p.filter crcOperation = .crcClear :: bs.map .crcByte →
    ∃ t v, runInstrs p s = .next t ∧ v.toNat = (checksum bs).toNat
      ∧ exec .crcRead t = .next (answered t (okValue v))

/-- R87: the pseudo-operation `CHECKSUM [b0 ... bn-1]` expands to CRC_CLEAR, the CRC_BYTEs and CRC_READ.
Run from any state it answers `(OK, 0)` to each but the last, whose value is the checksum of the bytes,
and it changes nothing but `crc`. -/
def Obligations.ChecksumPseudoOperation : Prop :=
  ∀ (bs : List Byte) (s : State), ∃ v : Word, v.toNat = (checksum bs).toNat
    ∧ runInstrs (assemble (.checksum bs)) s = .next { s with
        crc := checksum bs
        outputs := s.outputs ++ List.replicate (bs.length + 1) (.response (okValue 0))
          ++ [.response (okValue v)] }

/-! ### Transmit marshaler -/

/-- R110: a TX_BUILD whose carried payload fits latches the five words, the payload and
`size = 24 + p`, withdraws earlier bytes, and returns `size`. A payload supplied for an action other
than Set is dropped, unchecked. One that does not fit discards the built frame and its bytes and raises
CAPACITY_EXCEEDED (R177). -/
def Obligations.BuildLatchesOrDiscardsFrame : Prop :=
  ∀ (s : State) (dev cmd act arg1 arg2 : Word) (payload : Option (List Byte)),
    (PayloadFits s.cfg (keptPayload act payload).length →
      ∃ size : Word, size.toNat = 24 + (keptPayload act payload).length
        ∧ exec (.txBuild dev cmd act arg1 arg2 payload) s = .next { answered s (okValue size) with
            txBuilt := true
            txDev := dev
            txCmd := cmd
            txAct := act
            txArg1 := arg1
            txArg2 := arg2
            txSize := size
            txPl := keptPayload act payload
            txLen := 0 })
    ∧ (¬ PayloadFits s.cfg (keptPayload act payload).length →
      exec (.txBuild dev cmd act arg1 arg2 payload) s
        = .next { answered s (notOk .capacityExceeded) with txBuilt := false, txLen := 0 })

/-- R111, R63: with a frame built, TX_SERIALIZE writes its bytes from offset 0: preamble, size, the
five header words, the payload, and the zero-extended checksum of all before it. It sets `tx_len` to
the frame length and leaves every byte beyond it, `crc` and the receive side as they were. The
response value is that length where 32 bits hold it; beyond, the value is free (log 2). -/
def Obligations.SerializeWritesFrameLayout : Prop :=
  ∀ s : State, BlockInv s → s.txBuilt = true →
    ∃ buf v, exec .txSerialize s = .next { answered s (okValue v) with
          txBuf := buf
          txLen := 8 + s.txSize.toNat }
      ∧ (8 + s.txSize.toNat < 2 ^ 32 → v.toNat = 8 + s.txSize.toNat)
      ∧ 8 + s.txSize.toNat = 32 + s.txPl.length
      ∧ leNat buf 0 = 0x42525056
      ∧ leNat buf 4 = s.txSize.toNat
      ∧ leNat buf 8 = s.txDev.toNat
      ∧ leNat buf 12 = s.txCmd.toNat
      ∧ leNat buf 16 = s.txAct.toNat
      ∧ leNat buf 20 = s.txArg1.toNat
      ∧ leNat buf 24 = s.txArg2.toNat
      ∧ (∀ k (h : k < s.txPl.length), Memory.read buf (28 + k) = s.txPl[k])
      ∧ leNat buf (28 + s.txPl.length)
          = (checksum ((List.range (28 + s.txPl.length)).map (Memory.read buf))).toNat
      ∧ ∀ a, 32 + s.txPl.length ≤ a → Memory.read buf a = Memory.read s.txBuf a

/-- R111: TX_SERIALIZE with no frame built raises NA_EMPTY. -/
def Obligations.SerializeNeedsBuiltFrame : Prop :=
  ∀ s : State, s.txBuilt = false →
    exec .txSerialize s = .next (answered s (notOk .naEmpty))

/-- R112: TX_LENGTH returns `tx_len` where 32 bits hold it; beyond, it answers a free value (log 2). -/
def Obligations.LengthReportsValidBytes : Prop :=
  ∀ s : State, ∃ v : Word, (s.txLen < 2 ^ 32 → v.toNat = s.txLen)
    ∧ exec .txLength s = .next (answered s (okValue v))

/-- R113: a frame built and serialised, then loaded, is a COMMAND frame whose accessors return the
words and the payload it was built from, and whose checksum verifies. -/
def Obligations.MarshalledFrameReadsBack : Prop :=
  ∀ (s : State) (dev cmd act arg1 arg2 : Word) (payload : Option (List Byte)), BlockInv s →
    PayloadFits s.cfg (keptPayload act payload).length →
    32 + (keptPayload act payload).length ≤ s.cfg.rxBufBytes →
    32 + (keptPayload act payload).length < 2 ^ 32 →
    ∃ t u w len sls,
      exec (.txBuild dev cmd act arg1 arg2 payload) s = .next t
      ∧ exec .txSerialize t = .next u
      ∧ u.txLen = 32 + (keptPayload act payload).length
      ∧ exec (.rxLoad ((List.range u.txLen).map (Memory.read u.txBuf))) u = .next w
      ∧ exec .rxClassify w = .next (answered w (okValue 1))
      ∧ exec .cmdCommand w = .next (answered w (okValue cmd))
      ∧ exec .cmdAction w = .next (answered w (okValue act))
      ∧ exec .cmdDeviceId w = .next (answered w (okValue dev))
      ∧ len.toNat = (keptPayload act payload).length
      ∧ exec .cmdPayload w = .next { answered w ⟨.ok, len, 28, len⟩ with slices := sls }
      ∧ (∀ k (h : k < (keptPayload act payload).length),
          Memory.read w.rxBuf (28 + k) = (keptPayload act payload)[k])
      ∧ exec .rxVerify w = .next (answered w (okValue 1))

/-! ### Frame discriminator and frame operations -/

/-- R120: RX_LOAD of a buffer that fits copies it from offset 0, leaves the bytes beyond it as they
were, latches its class (R121, by R28's table) and returns the class code. One that does not fit drops
what was held and raises CAPACITY_EXCEEDED (R177). Either way every slice ends (R196). -/
def Obligations.LoadStoresAndClassifies : Prop :=
  ∀ (s : State) (bs : List Byte),
    (Memory.wf s.rxBuf = true → bs.length ≤ s.cfg.rxBufBytes →
      ∃ buf, exec (.rxLoad bs) s
          = .next { answered s (okValue (classOfBytes bs).code) with
              rxBuf := buf
              rxLen := bs.length
              rxPresent := true
              rxClass := classOfBytes bs
              slices := [] }
        ∧ (∀ k (h : k < bs.length), Memory.read buf k = bs[k])
        ∧ ∀ a, bs.length ≤ a → Memory.read buf a = Memory.read s.rxBuf a)
    ∧ (s.cfg.rxBufBytes < bs.length →
      exec (.rxLoad bs) s = .next { answered s (notOk .capacityExceeded) with
        rxPresent := false, rxLen := 0, rxClass := .empty, slices := [] })

/-- R122, R123: RX_RELEASE drops the buffer; RX_CLASSIFY returns the code of the latched class
(R83: EMPTY 0, COMMAND 1, TELEMETRY 2, UNKNOWN 3). -/
def Obligations.ReleaseAndClassifyEffect : Prop :=
  ∀ s : State,
    exec .rxRelease s = .next { answered s (okValue 0) with
      rxPresent := false, rxLen := 0, rxClass := .empty, slices := [] }
    ∧ (s.rxClass = .empty → exec .rxClassify s = .next (answered s (okValue 0)))
    ∧ (s.rxClass = .command → exec .rxClassify s = .next (answered s (okValue 1)))
    ∧ (s.rxClass = .telemetry → exec .rxClassify s = .next (answered s (okValue 2)))
    ∧ (s.rxClass = .unknown → exec .rxClassify s = .next (answered s (okValue 3)))

/-- The wire-frame rows of R61: a buffer that begins with a preamble and fits is held and classified by
it, and its code is returned. That a frame row acts as a load is the model's choice (log 4). -/
def Obligations.WireFrameRowsLoadTheirFamily : Prop :=
  ∀ (s : State) (rest : List Byte), 4 + rest.length ≤ s.cfg.rxBufBytes →
    Memory.wf s.rxBuf = true →
    (∃ buf, exec (.frameCommand rest) s = .next { answered s (okValue 1) with
        rxBuf := buf, rxLen := 4 + rest.length, rxPresent := true, rxClass := .command
        slices := [] }
      ∧ (∀ a, Memory.read buf a = if h : a < 4 + rest.length
          then (commandMark ++ rest)[a]'(by simp [commandMark]; omega)
          else Memory.read s.rxBuf a))
    ∧ (∃ buf, exec (.frameTelemetry rest) s = .next { answered s (okValue 2) with
        rxBuf := buf, rxLen := 4 + rest.length, rxPresent := true, rxClass := .telemetry
        slices := [] }
      ∧ (∀ a, Memory.read buf a = if h : a < 4 + rest.length
          then (telemetryMark ++ rest)[a]'(by simp [telemetryMark]; omega)
          else Memory.read s.rxBuf a))

/-- A delivered buffer adds no behaviour: a step that takes it is the step that takes the RX_LOAD
request of the same bytes (log 4: the model's choice). -/
def Obligations.DeliveredBufferIsRxLoad : Prop :=
  ∀ (s : State) (bs : List Byte) (rest : List Input), bs.length < 2 ^ 32 →
    step { s with inputs := .frame bs :: rest }
      = step { s with
          inputs := .request ⟨0x00000020, [BitVec.ofNat 32 bs.length], bs⟩ :: rest }

/-- R121: the discriminator, on every input: EMPTY for an absent or zero-length buffer, UNKNOWN below
four bytes, else by the little-endian preamble. It reads no byte at an offset at or beyond the length:
two buffers with the same valid bytes have the same class. -/
def Obligations.DiscriminatorIsTotalAndBounded : Prop :=
  (∀ (p : Bool) (m : Memory) (len : Nat),
    (p = false ∨ len = 0 → classify p m len = .empty)
    ∧ (p = true → 1 ≤ len → len ≤ 3 → classify p m len = .unknown)
    ∧ (p = true → 4 ≤ len → classify p m len
        = if leNat m 0 = 0x42525056 then .command
          else if leNat m 0 = 0x50525056 then .telemetry else .unknown))
  ∧ ∀ (p : Bool) (m m' : Memory) (len : Nat),
    (∀ a, a < len → Memory.read m a = Memory.read m' a) → classify p m len = classify p m' len

/-- R125, R126: with a frame class and a whole FrameHeader, RX_SIZE returns the `size` field as stored
and RX_COMPLETE tells whether `FH + size` bytes are in the buffer, in unbounded arithmetic. -/
def Obligations.SizeAndCompleteResults : Prop :=
  ∀ s : State, s.rxClass = .command ∨ s.rxClass = .telemetry → 8 ≤ s.rxLen →
    ∃ v : Word, v.toNat = leNat s.rxBuf 4
      ∧ exec .rxSize s = .next (answered s (okValue v))
      ∧ exec .rxComplete s
          = .next (answered s (okValue (if 8 + leNat s.rxBuf 4 ≤ s.rxLen then 1 else 0)))

/-- R127: with a frame class and a whole FrameHeader, RX_VERIFY raises NA_TRUNCATED where `size` is
below 4 or the frame is not whole; else it compares the 32-bit field that ends the frame with the
checksum of the bytes before it, and answers 1 or CHECKSUM_MISMATCH. It changes nothing. -/
def Obligations.VerifyComparesTrailingChecksum : Prop :=
  ∀ s : State, s.rxClass = .command ∨ s.rxClass = .telemetry → 8 ≤ s.rxLen →
    ((leNat s.rxBuf 4 < 4 ∨ s.rxLen < 8 + leNat s.rxBuf 4) →
      exec .rxVerify s = .next (answered s (notOk .naTruncated)))
    ∧ (4 ≤ leNat s.rxBuf 4 → 8 + leNat s.rxBuf 4 ≤ s.rxLen →
      exec .rxVerify s = .next (answered s
        (if leNat s.rxBuf (4 + leNat s.rxBuf 4)
            = (checksum ((List.range (4 + leNat s.rxBuf 4)).map (Memory.read s.rxBuf))).toNat
          then okValue 1 else notOk .checksumMismatch)))

/-! ### Command accessors -/

/-- R141, R142, R143: on a COMMAND frame that holds the field, CMD_COMMAND, CMD_ACTION and
CMD_DEVICE_ID return the little-endian words at 12, 16 and 8, unchanged. -/
def Obligations.CommandHeaderFields : Prop :=
  ∀ s : State, s.rxClass = .command →
    (16 ≤ s.rxLen → ∃ v : Word, v.toNat = leNat s.rxBuf 12
      ∧ exec .cmdCommand s = .next (answered s (okValue v)))
    ∧ (20 ≤ s.rxLen → ∃ v : Word, v.toNat = leNat s.rxBuf 16
      ∧ exec .cmdAction s = .next (answered s (okValue v)))
    ∧ (12 ≤ s.rxLen → ∃ v : Word, v.toNat = leNat s.rxBuf 8
      ∧ exec .cmdDeviceId s = .next (answered s (okValue v)))

/-- R144, R145: on a COMMAND frame that holds the action, CMD_IS_ACK answers 1 exactly for the value 3
and CMD_IS_NAK exactly for the value 4, else 0; a Nak is an OK response (R174). -/
def Obligations.AckAndNakTests : Prop :=
  ∀ s : State, s.rxClass = .command → 20 ≤ s.rxLen →
    exec .cmdIsAck s = .next (answered s (okValue (if leNat s.rxBuf 16 = 3 then 1 else 0)))
    ∧ exec .cmdIsNak s = .next (answered s (okValue (if leNat s.rxBuf 16 = 4 then 1 else 0)))

/-- R146: on a COMMAND frame with a whole FrameHeader, CMD_PAYLOAD answers the empty slice `(28, 0)`
where `size ≤ 24`, NA_TRUNCATED where the declared payload runs past the buffer, and else the slice
`(28, size - 24)`. The action is not consulted. -/
def Obligations.CommandPayloadSlice : Prop :=
  ∀ s : State, s.rxClass = .command → 8 ≤ s.rxLen →
    (leNat s.rxBuf 4 ≤ 24 → ∃ sls, (∀ sl, sl ∈ sls ↔ sl = ⟨28, 0⟩ ∨ sl ∈ s.slices)
      ∧ exec .cmdPayload s = .next { answered s ⟨.ok, 0, 28, 0⟩ with slices := sls })
    ∧ (24 < leNat s.rxBuf 4 → s.rxLen < 4 + leNat s.rxBuf 4 →
      exec .cmdPayload s = .next (answered s (notOk .naTruncated)))
    ∧ (24 < leNat s.rxBuf 4 → 4 + leNat s.rxBuf 4 ≤ s.rxLen →
      ∃ len sls, len.toNat = leNat s.rxBuf 4 - 24
        ∧ (∀ sl, sl ∈ sls ↔ sl = ⟨28, leNat s.rxBuf 4 - 24⟩ ∨ sl ∈ s.slices)
        ∧ exec .cmdPayload s = .next { answered s ⟨.ok, len, 28, len⟩ with slices := sls })

/-! ### Telemetry accessors -/

/-- R151, R152, R153: on a TELEMETRY frame that holds the field, TLM_DEVICE_ID, TLM_FRAME_COUNTER and
TLM_SENSOR_COUNT return the little-endian words at 8, 12 and 20, unchanged. -/
def Obligations.TelemetryHeaderFields : Prop :=
  ∀ s : State, s.rxClass = .telemetry →
    (12 ≤ s.rxLen → ∃ v : Word, v.toNat = leNat s.rxBuf 8
      ∧ exec .tlmDeviceId s = .next (answered s (okValue v)))
    ∧ (16 ≤ s.rxLen → ∃ v : Word, v.toNat = leNat s.rxBuf 12
      ∧ exec .tlmFrameCounter s = .next (answered s (okValue v)))
    ∧ (24 ≤ s.rxLen → ∃ v : Word, v.toNat = leNat s.rxBuf 20
      ∧ exec .tlmSensorCount s = .next (answered s (okValue v)))

/-- R154: on a TELEMETRY frame with a whole FrameHeader, TLM_PAYLOAD answers the empty slice `(8, 0)`
where `size ≤ 4`, NA_TRUNCATED where the payload runs past the buffer, and else the slice
`(8, size - 4)`. -/
def Obligations.TelemetryPayloadSlice : Prop :=
  ∀ s : State, s.rxClass = .telemetry → 8 ≤ s.rxLen →
    (leNat s.rxBuf 4 ≤ 4 → ∃ sls, (∀ sl, sl ∈ sls ↔ sl = ⟨8, 0⟩ ∨ sl ∈ s.slices)
      ∧ exec .tlmPayload s = .next { answered s ⟨.ok, 0, 8, 0⟩ with slices := sls })
    ∧ (4 < leNat s.rxBuf 4 → s.rxLen < 4 + leNat s.rxBuf 4 →
      exec .tlmPayload s = .next (answered s (notOk .naTruncated)))
    ∧ (4 < leNat s.rxBuf 4 → 4 + leNat s.rxBuf 4 ≤ s.rxLen →
      ∃ len sls, len.toNat = leNat s.rxBuf 4 - 4
        ∧ (∀ sl, sl ∈ sls ↔ sl = ⟨8, leNat s.rxBuf 4 - 4⟩ ∨ sl ∈ s.slices)
        ∧ exec .tlmPayload s = .next { answered s ⟨.ok, len, 8, len⟩ with slices := sls })

/-- R155: for a readable record (R156), TLM_SENSOR_RECORD answers the 32-byte slice at `24 + 32*index`,
with that offset as its value. -/
def Obligations.SensorRecordSlice : Prop :=
  ∀ (s : State) (index : Word), RecordReadable s index → s.rxLen < 2 ^ 32 →
    ∃ base sls, base.toNat = 24 + 32 * index.toNat
      ∧ (∀ sl, sl ∈ sls ↔ sl = ⟨24 + 32 * index.toNat, 32⟩ ∨ sl ∈ s.slices)
      ∧ exec (.tlmSensorRecord index) s
          = .next { answered s ⟨.ok, base, base, 32⟩ with slices := sls }

/-- R157 to R165, R67: for a readable record, each SR_* field operation returns its bits of the info
word at `24 + 32*index`, as an unsigned value: SR_INFO all 32, then sensor_number 6:0, is_virtual 7,
position_units 9:8, orientation_units 11:10, button0 12, button1 13, distortion_level 21:14 and
aux_input 31:22. -/
def Obligations.SensorInfoFields : Prop :=
  ∀ (s : State) (index : Word), RecordReadable s index →
    ∀ (i : Instr) (lo width : Nat),
      (i, lo, width) ∈ [(Instr.srInfo index, 0, 32), (.srSensorNumber index, 0, 7),
        (.srIsVirtual index, 7, 1), (.srPositionUnits index, 8, 2),
        (.srOrientationUnits index, 10, 2), (.srButton0 index, 12, 1), (.srButton1 index, 13, 1),
        (.srDistortionLevel index, 14, 8), (.srAuxInput index, 22, 10)] →
      ∃ v : Word, v.toNat = leNat s.rxBuf (24 + 32 * index.toNat) / 2 ^ lo % 2 ^ width
        ∧ exec i s = .next (answered s (okValue v))

/-- R166, R167: for a readable record, SR_POSITION returns position component `k ≤ 2` and
SR_ORIENTATION orientation component `k ≤ 3`, the stored 32-bit patterns (R168). A `k` beyond is
BAD_OPERATION, whatever the buffer holds. -/
def Obligations.PoseComponents : Prop :=
  ∀ (s : State) (index : Word) (k : Byte),
    (RecordReadable s index → k.toNat ≤ 2 → ∃ v : Word,
      v.toNat = leNat s.rxBuf (24 + 32 * index.toNat + 4 + 4 * k.toNat)
      ∧ exec (.srPosition index k) s = .next (answered s (okValue v)))
    ∧ (RecordReadable s index → k.toNat ≤ 3 → ∃ v : Word,
      v.toNat = leNat s.rxBuf (24 + 32 * index.toNat + 16 + 4 * k.toNat)
      ∧ exec (.srOrientation index k) s = .next (answered s (okValue v)))
    ∧ (2 < k.toNat → exec (.srPosition index k) s = .next (answered s (notOk .badOperation)))
    ∧ (3 < k.toNat → exec (.srOrientation index k) s = .next (answered s (notOk .badOperation)))

/-! ### Reset and the host's reads -/

/-- R190: the reset event sets `crc` to 0, the receive side to absent and EMPTY, and the transmit side
to not built with no bytes; the other elements may hold any value. -/
def Obligations.ResetEventEffect : Prop :=
  ∀ (s : State) (rest : List Input), s.inputs = .reset :: rest →
    ∃ t, step s = .next t ∧ t.crc = 0x0000 ∧ t.rxLen = 0 ∧ t.rxPresent = false
      ∧ t.rxClass = .empty ∧ t.txBuilt = false ∧ t.txLen = 0

/-- R191: right after reset, whatever the parameters and whatever the elements R190 leaves at any
value hold, CRC_READ, RX_CLASSIFY and TX_LENGTH answer `(OK, 0)`, and TX_SERIALIZE, RX_SIZE,
RX_COMPLETE, RX_VERIFY and every CMD_*, TLM_* and SR_* of valid form answer NA_EMPTY. -/
def Obligations.AnswersRightAfterReset : Prop :=
  ∀ (s : State) (c : Config), SameVisible (State.resetWith c) s →
    exec .crcRead s = .next (answered s (okValue 0))
    ∧ exec .rxClassify s = .next (answered s (okValue 0))
    ∧ exec .txLength s = .next (answered s (okValue 0))
    ∧ exec .txSerialize s = .next (answered s (notOk .naEmpty))
    ∧ ∀ i, WellFormed i = true → readsFrame i = true →
        exec i s = .next (answered s (notOk .naEmpty))

/-- R46, R187: the host reads any bytes of a slice it holds, and gets those bytes of RX; a read has no
side effect (R45). The read as an input over the slices held is the model's form (log 6). -/
def Obligations.HeldSliceCanBeRead : Prop :=
  ∀ (s : State) (sl : Slice) (off n : Nat) (rest : List Input), BlockInv s → sl ∈ s.slices →
    sl.off ≤ off → off + n ≤ sl.off + sl.len → s.inputs = .readRx off n :: rest →
    step s = .next { s with
      inputs := rest
      outputs := s.outputs ++ [.bytes ((List.range n).map fun k => Memory.read s.rxBuf (off + k))] }

/-- R196: a slice the host holds lasts through every operation that is not a load or a release. After
a load (a wire frame's too, log 4), a release or a reset no slice is valid, and every host read of RX
stops until an operation names a new one. The read as an input over the slices held, and that every
read stops, one of no bytes and one after a failed load included, are the model's choice (log 6); so is
the reset as an input (log 7). -/
def Obligations.SlicesLastUntilLoadReleaseOrReset : Prop :=
  (∀ (i : Instr) (s t : State), loadsOrReleases i = false → exec i s = .next t →
    ∀ sl ∈ s.slices, sl ∈ t.slices)
  ∧ (∀ (i : Instr) (s t u : State) (off n : Nat) (rest : List Input),
    loadsOrReleases i = true → exec i s = .next t →
      step { t with inputs := .readRx off n :: rest } ≠ .next u)
  ∧ ∀ (s t u : State) (off n : Nat) (before rest : List Input),
    s.inputs = .reset :: before → step s = .next t →
      step { t with inputs := .readRx off n :: rest } ≠ .next u

/-- R32, R187, R194: the host reads `tx_buf[0..tx_len-1]` and gets those bytes, with no side effect; a
read that reaches beyond `tx_len` stops. The read as an input, and that a read of no bytes is held to the
same test, are the model's form (log 6). -/
def Obligations.HostReadsValidTransmitBytesOnly : Prop :=
  ∀ (s : State) (off n : Nat) (rest : List Input), BlockInv s → s.inputs = .readTx off n :: rest →
    (off + n ≤ s.txLen → step s = .next { s with
      inputs := rest
      outputs := s.outputs ++ [.bytes ((List.range n).map fun k => Memory.read s.txBuf (off + k))] })
    ∧ (s.txLen < off + n → ∀ u, step s ≠ .next u)

/-! ### Byte-addressed spaces -/

/-- R43: the 4-byte read is the little-endian value, and reading a word just written as `LE32(v)` at
any offset, aligned or not (R44), gives `v`. Writing keeps the canonical form and every other byte. -/
def Obligations.LittleEndianWordAccess : Prop :=
  ∀ (m : Memory) (off : Nat) (v : Word), Memory.wf m = true →
    (Memory.readWord m off).toNat = leNat m off
    ∧ Memory.wf (Memory.writeBytes m off (le32 v)) = true
    ∧ leNat (Memory.writeBytes m off (le32 v)) off = v.toNat
    ∧ ∀ a, a < off ∨ off + 4 ≤ a →
        Memory.read (Memory.writeBytes m off (le32 v)) a = Memory.read m a
end

