-- ==== Sys2Proof/Laws/Memory.lean ====
section
/-! SUPPORT. The laws of the byte-addressed spaces: canonical form, read after write, and what a
run of bytes leaves. -/

namespace Sys2Proof.Laws

open Sys2Proof.Machine

/-! ### Canonical form -/

theorem wfFrom_mono {m : Memory} {lo lo' : Nat} (h : lo' ≤ lo) (hw : Memory.wfFrom lo m = true) :
    Memory.wfFrom lo' m = true := by
  cases m with
  | nil => rfl
  | cons c m => obtain ⟨k, b⟩ := c; simp [Memory.wfFrom] at hw ⊢; exact ⟨⟨by omega, hw.1.2⟩, hw.2⟩

theorem read_of_wfFrom {m : Memory} {lo a : Nat} (hw : Memory.wfFrom lo m = true) (h : a < lo) :
    Memory.read m a = Memory.unlisted := by
  induction m generalizing lo with
  | nil => rfl
  | cons c m ih =>
    obtain ⟨k, b⟩ := c
    simp [Memory.wfFrom] at hw
    simp only [Memory.read]
    rw [if_neg (by omega)]
    exact ih hw.2 (by omega)

theorem write_wfFrom {m : Memory} {lo a : Nat} {v : Byte} (hw : Memory.wfFrom lo m = true)
    (h : lo ≤ a) : Memory.wfFrom lo (Memory.write m a v) = true := by
  induction m generalizing lo with
  | nil => simp only [Memory.write]; split <;> simp_all [Memory.wfFrom]
  | cons c m ih =>
    obtain ⟨k, b⟩ := c
    have hw' := hw
    simp [Memory.wfFrom] at hw'
    simp only [Memory.write]
    split
    · split
      · exact hw
      · simp_all [Memory.wfFrom]
    · split
      · split
        · exact wfFrom_mono (by omega) hw'.2
        · subst a; simp_all [Memory.wfFrom]
      · simp [Memory.wfFrom, hw'.1]
        exact ih hw'.2 (by omega)

/-- A write keeps the canonical form. -/
theorem write_wf {m : Memory} (a : Nat) (v : Byte) (hw : Memory.wf m = true) :
    Memory.wf (Memory.write m a v) = true := write_wfFrom hw (Nat.zero_le a)

/-- A run of writes keeps the canonical form. -/
theorem writeBytes_wf {m : Memory} (off : Nat) (bs : List Byte) (hw : Memory.wf m = true) :
    Memory.wf (Memory.writeBytes m off bs) = true := by
  induction bs generalizing m off with
  | nil => exact hw
  | cons b bs ih => exact ih _ (write_wf off b hw)

theorem nil_wf : Memory.wf [] = true := rfl

/-! ### Read after write -/

theorem read_write_other {m : Memory} {a a' : Nat} (v : Byte) (h : a' ≠ a) :
    Memory.read (Memory.write m a v) a' = Memory.read m a' := by
  induction m with
  | nil => simp only [Memory.write]; split <;> simp [Memory.read, h]
  | cons c m ih =>
    obtain ⟨k, b⟩ := c
    simp only [Memory.write]
    split
    · split <;> simp [Memory.read, h]
    · split
      · subst a; split <;> simp [Memory.read, h]
      · simp only [Memory.read, ih]

theorem read_write_same_from {m : Memory} {lo a : Nat} (v : Byte) (hw : Memory.wfFrom lo m = true) :
    Memory.read (Memory.write m a v) a = v := by
  induction m generalizing lo with
  | nil => simp only [Memory.write]; split <;> simp_all [Memory.read]
  | cons c m ih =>
    obtain ⟨k, b⟩ := c
    have hw' := hw
    simp [Memory.wfFrom] at hw'
    simp only [Memory.write]
    split
    · split
      · rename_i hlt hv
        simp only [Memory.read]
        rw [if_neg (by omega), read_of_wfFrom hw'.2 (by omega), hv]
      · simp [Memory.read]
    · split
      · split
        · rename_i hv; subst a; rw [read_of_wfFrom hw'.2 (by omega), hv]
        · subst a; simp [Memory.read]
      · rename_i hk; simp only [Memory.read, if_neg hk]; exact ih hw'.2

/-- A read of the offset written gives the value written. -/
theorem read_write_same {m : Memory} (a : Nat) (v : Byte) (hw : Memory.wf m = true) :
    Memory.read (Memory.write m a v) a = v := read_write_same_from v hw

theorem read_write {m : Memory} (a a' : Nat) (v : Byte) (hw : Memory.wf m = true) :
    Memory.read (Memory.write m a v) a' = if a' = a then v else Memory.read m a' := by
  by_cases h : a' = a
  · subst h; simp [read_write_same _ _ hw]
  · simp [h, read_write_other]

/-! ### Runs of bytes -/

theorem read_writeBytes_outside {m : Memory} {off a : Nat} {bs : List Byte}
    (h : a < off ∨ off + bs.length ≤ a) :
    Memory.read (Memory.writeBytes m off bs) a = Memory.read m a := by
  induction bs generalizing m off with
  | nil => rfl
  | cons b bs ih =>
    simp only [List.length_cons] at h
    simp only [Memory.writeBytes]
    rw [ih (by omega), read_write_other _ (by omega)]

theorem read_writeBytes_inside {m : Memory} {off i : Nat} {bs : List Byte}
    (hw : Memory.wf m = true) (h : i < bs.length) :
    Memory.read (Memory.writeBytes m off bs) (off + i) = bs[i] := by
  induction bs generalizing m off i with
  | nil => simp at h
  | cons b bs ih =>
    simp only [Memory.writeBytes]
    cases i with
    | zero =>
      rw [read_writeBytes_outside (by omega)]
      simp [read_write_same _ _ hw]
    | succ i =>
      have := ih (off := off + 1) (i := i) (write_wf off b hw) (by simpa using h)
      rw [show off + (i + 1) = off + 1 + i by omega, this]
      rfl

@[simp] theorem readBytes_length (m : Memory) (off n : Nat) :
    (Memory.readBytes m off n).length = n := by
  induction n generalizing off with
  | zero => rfl
  | succ n ih => simp [Memory.readBytes, ih]

theorem readBytes_getElem {m : Memory} {off n i : Nat} (h : i < (Memory.readBytes m off n).length) :
    (Memory.readBytes m off n)[i] = Memory.read m (off + i) := by
  induction n generalizing off i with
  | zero => simp at h
  | succ n ih =>
    cases i with
    | zero => rfl
    | succ i =>
      have hi : i < (Memory.readBytes m (off + 1) n).length := by simpa using h
      simp only [Memory.readBytes, List.getElem_cons_succ]
      rw [ih hi]; congr 1; omega

theorem readBytes_congr {m m' : Memory} {off n : Nat}
    (h : ∀ i, i < n → Memory.read m (off + i) = Memory.read m' (off + i)) :
    Memory.readBytes m off n = Memory.readBytes m' off n := by
  apply List.ext_getElem (by simp)
  intro i h1 h2
  rw [readBytes_getElem, readBytes_getElem]
  exact h i (by simpa using h1)

/-- Reading back the bytes just written. -/
theorem readBytes_writeBytes {m : Memory} (off : Nat) (bs : List Byte) (hw : Memory.wf m = true) :
    Memory.readBytes (Memory.writeBytes m off bs) off bs.length = bs := by
  apply List.ext_getElem (by simp)
  intro i h1 h2
  rw [readBytes_getElem, read_writeBytes_inside hw h2]

/-! ### Offsets inside a space -/

theorem below_iff {bound : Nat} {m : Memory} :
    Memory.below bound m = true ↔ ∀ c ∈ m, c.1 < bound := by
  simp [Memory.below]

theorem write_below {bound a : Nat} {m : Memory} {v : Byte} (hb : Memory.below bound m = true)
    (h : a < bound) : Memory.below bound (Memory.write m a v) = true := by
  induction m with
  | nil => simp only [Memory.write]; split <;> simp [Memory.below, h]
  | cons c m ih =>
    obtain ⟨k, b⟩ := c
    have hb' : k < bound ∧ Memory.below bound m = true := by simpa [Memory.below] using hb
    simp only [Memory.write]
    split
    · split
      · exact hb
      · rw [below_iff] at *; intro c hc; rcases List.mem_cons.mp hc with rfl | hc
        · exact h
        · exact hb c hc
    · split
      · split
        · exact hb'.2
        · rw [below_iff] at *; intro c hc; rcases List.mem_cons.mp hc with rfl | hc
          · exact h
          · exact hb c (List.mem_cons_of_mem _ hc)
      · have := ih hb'.2
        rw [below_iff] at *; intro c hc; rcases List.mem_cons.mp hc with rfl | hc
        · exact hb'.1
        · exact this c hc

theorem writeBytes_below {bound off : Nat} {m : Memory} {bs : List Byte}
    (hb : Memory.below bound m = true) (h : off + bs.length ≤ bound) :
    Memory.below bound (Memory.writeBytes m off bs) = true := by
  induction bs generalizing m off with
  | nil => exact hb
  | cons b bs ih =>
    simp only [List.length_cons] at h
    exact ih (write_below hb (by omega)) (by omega)

/-! ### Equal memories are equal data -/

theorem write_read_from {m : Memory} {lo a : Nat} (hw : Memory.wfFrom lo m = true) :
    Memory.write m a (Memory.read m a) = m := by
  induction m generalizing lo with
  | nil => simp [Memory.write, Memory.read]
  | cons c m ih =>
    obtain ⟨k, b⟩ := c
    have hw' := hw
    simp [Memory.wfFrom] at hw'
    by_cases hk : a = k
    · subst hk; simp [Memory.write, Memory.read, hw'.1.2]
    · simp only [Memory.write, Memory.read, if_neg hk]
      by_cases hlt : a < k
      · simp [hlt, read_of_wfFrom hw'.2 (show a < k + 1 by omega)]
      · simp [hlt, ih hw'.2]

/-- Writing what is already there changes nothing. -/
theorem write_same {m : Memory} {a : Nat} {v : Byte} (hw : Memory.wf m = true)
    (h : Memory.read m a = v) : Memory.write m a v = m := by
  subst h; exact write_read_from hw

theorem writeBytes_same {m : Memory} {off : Nat} {bs : List Byte} (hw : Memory.wf m = true)
    (h : Memory.readBytes m off bs.length = bs) : Memory.writeBytes m off bs = m := by
  induction bs generalizing off with
  | nil => rfl
  | cons b bs ih =>
    simp only [List.length_cons, Memory.readBytes, List.cons.injEq] at h
    simp only [Memory.writeBytes]
    rw [write_same hw h.1]
    exact ih h.2

end Sys2Proof.Laws
end

