-- ==== Sys2Proof/Laws/Bytes.lean ====
section
/-! SUPPORT. Byte order (R42, R43): what a little-endian read and `LE32` have in common. -/

namespace Sys2Proof.Laws

open Sys2Proof.Machine

/-- The value of a little-endian word, without the wrap its width could hide. -/
theorem leWord_toNat (b0 b1 b2 b3 : Byte) :
    (leWord b0 b1 b2 b3).toNat
      = b0.toNat + 2 ^ 8 * b1.toNat + 2 ^ 16 * b2.toNat + 2 ^ 24 * b3.toNat := by
  have h0 := b0.isLt; have h1 := b1.isLt; have h2 := b2.isLt; have h3 := b3.isLt
  simp only [leWord, BitVec.toNat_ofNat]
  omega

@[simp] theorem le32_length (v : Word) : (le32 v).length = 4 := rfl

/-- Reading back `LE32(v)` gives `v`. -/
theorem leWord_le32 (v : Word) :
    leWord (v.extractLsb' 0 8) (v.extractLsb' 8 8) (v.extractLsb' 16 8) (v.extractLsb' 24 8) = v := by
  apply BitVec.eq_of_toNat_eq
  rw [leWord_toNat]
  have := v.isLt
  simp only [BitVec.extractLsb'_toNat, Nat.shiftRight_eq_div_pow]
  omega

/-- Two little-endian words are equal only if their bytes are. -/
theorem leWord_inj {a0 a1 a2 a3 b0 b1 b2 b3 : Byte}
    (h : leWord a0 a1 a2 a3 = leWord b0 b1 b2 b3) : a0 = b0 ∧ a1 = b1 ∧ a2 = b2 ∧ a3 = b3 := by
  have h' := congrArg BitVec.toNat h
  rw [leWord_toNat, leWord_toNat] at h'
  have := a0.isLt; have := a1.isLt; have := a2.isLt; have := a3.isLt
  have := b0.isLt; have := b1.isLt; have := b2.isLt; have := b3.isLt
  refine ⟨?_, ?_, ?_, ?_⟩ <;> apply BitVec.eq_of_toNat_eq <;> omega

theorem readWord_congr {m m' : Memory} {off : Nat}
    (h : ∀ i, i < 4 → Memory.read m (off + i) = Memory.read m' (off + i)) :
    Memory.readWord m off = Memory.readWord m' off := by
  have h0 := h 0 (by omega)
  have h1 := h 1 (by omega)
  have h2 := h 2 (by omega)
  have h3 := h 3 (by omega)
  simp only [Nat.add_zero] at h0
  simp [Memory.readWord, h0, h1, h2, h3]

/-- A word read at `off + k` of bytes written at `off` is the word of those bytes. -/
theorem readWord_writeBytes {m : Memory} {off k : Nat} {bs : List Byte} (hw : Memory.wf m = true)
    (h : k + 4 ≤ bs.length) :
    Memory.readWord (Memory.writeBytes m off bs) (off + k)
      = leWord bs[k] bs[k + 1] bs[k + 2] bs[k + 3] := by
  have r : ∀ j (hj : k + j < bs.length),
      Memory.read (Memory.writeBytes m off bs) (off + k + j) = bs[k + j] := fun j hj => by
    rw [Nat.add_assoc, read_writeBytes_inside hw hj]
  have r0 := r 0 (by omega)
  simp only [Nat.add_zero] at r0
  simp only [Memory.readWord]
  rw [r0, r 1 (by omega), r 2 (by omega), r 3 (by omega)]

end Sys2Proof.Laws
end

