-- ==== Sys2Proof/Laws/Decode.lean ====
section
/-! SUPPORT. The fields of a request word and the operation map, one lemma per function of the decoder. -/

namespace Sys2Proof.Laws

open Sys2Proof.Machine

theorem requestWord_toNat (op sub : Byte) :
    (requestWord op sub).toNat = op.toNat + 256 * sub.toNat := by
  have := op.isLt; have := sub.isLt
  simp only [requestWord, BitVec.toNat_ofNat]; omega

@[simp] theorem requestWord_op (op sub : Byte) (ws : List Word) (bs : List Byte) :
    Request.op ⟨requestWord op sub, ws, bs⟩ = op := by
  apply BitVec.eq_of_toNat_eq
  have := op.isLt; have := sub.isLt
  simp only [Request.op, BitVec.extractLsb'_toNat, requestWord_toNat, Nat.shiftRight_eq_div_pow]
  omega

@[simp] theorem requestWord_sub (op sub : Byte) (ws : List Word) (bs : List Byte) :
    Request.sub ⟨requestWord op sub, ws, bs⟩ = sub := by
  apply BitVec.eq_of_toNat_eq
  have := op.isLt; have := sub.isLt
  simp only [Request.sub, BitVec.extractLsb'_toNat, requestWord_toNat, Nat.shiftRight_eq_div_pow]
  omega

@[simp] theorem requestWord_rsv (op sub : Byte) (ws : List Word) (bs : List Byte) :
    Request.rsv ⟨requestWord op sub, ws, bs⟩ = 0 := by
  apply BitVec.eq_of_toNat_eq
  have := op.isLt; have := sub.isLt
  have h0 : (0 : Half).toNat = 0 := rfl
  simp only [Request.rsv, BitVec.extractLsb'_toNat, requestWord_toNat, Nat.shiftRight_eq_div_pow, h0]
  omega

/-- A request word is its three fields. -/
theorem word_of_fields {r : Request} (h : r.rsv = 0) : r.word = requestWord r.op r.sub := by
  apply BitVec.eq_of_toNat_eq
  have h' := congrArg BitVec.toNat h
  have := r.word.isLt
  have h0 : (0 : Half).toNat = 0 := rfl
  simp only [Request.rsv, Request.op, Request.sub, requestWord_toNat, BitVec.extractLsb'_toNat,
    Nat.shiftRight_eq_div_pow, h0, Nat.reducePow] at h' ⊢
  omega

@[simp] theorem ofByte_byte (o : OpCode) : OpCode.ofByte? o.byte = some o := by
  cases o <;> decide

theorem byte_of_ofByte {b : Byte} {o : OpCode} (h : OpCode.ofByte? b = some o) : o.byte = b := by
  have := List.find?_some h
  simpa using this

/-- What a decoded request is: its row, with R85's checks passed. -/
theorem decodeRequest_eq_some {r : Request} {i : Instr} (h : decodeRequest r = some i) :
    ∃ o : OpCode, r.rsv = 0 ∧ o.byte = r.op ∧ o.subAdmitted r.sub = true
      ∧ r.words.length = o.format.operandCount r.sub
      ∧ r.block.length = o.format.blockLength r.sub r.words
      ∧ i = o.instr r.sub r.words r.block := by
  unfold decodeRequest at h
  split at h
  · cases h
  · rename_i hr
    split at h
    · cases h
    · rename_i o ho
      split at h
      · cases h
      split at h
      · cases h
      split at h
      · cases h
      cases h
      refine ⟨o, by simpa using hr, byte_of_ofByte ho, ?_, ?_, ?_, rfl⟩ <;> simp_all

/-- A request that passes R85's checks decodes to its row's operation. -/
theorem decodeRequest_of {r : Request} {o : OpCode} (hr : r.rsv = 0) (ho : r.op = o.byte)
    (hs : o.subAdmitted r.sub = true) (hw : r.words.length = o.format.operandCount r.sub)
    (hb : r.block.length = o.format.blockLength r.sub r.words) :
    decodeRequest r = some (o.instr r.sub r.words r.block) := by
  simp [decodeRequest, hr, ho, hs, hw, hb]

/-- The first four bytes of `LE32(v) ++ rest` are `v`. -/
@[simp] theorem preambleOf_le32 (v : Word) (rest : List Byte) :
    preambleOf (le32 v ++ rest) = some v := by
  simp [preambleOf, le32, leWord_le32]

/-- A buffer with the preamble `v` begins with `LE32(v)`. -/
theorem eq_of_preambleOf {bs : List Byte} {v : Word} (h : preambleOf bs = some v) :
    bs = le32 v ++ bs.drop 4 := by
  match bs, h with
  | b0 :: b1 :: b2 :: b3 :: rest, h =>
    simp only [preambleOf, Option.some.injEq] at h
    have := leWord_inj (h.trans (leWord_le32 v).symm)
    simp [le32, this.1, this.2.1, this.2.2.1, this.2.2.2]

/-! ### Steps -/

/-- A step with an input that decodes (R50). -/
theorem step_of_decode {s : State} {inp : Input} {rest : List Input} {i : Instr}
    (h : s.inputs = inp :: rest) (hd : decodeInput inp = some i) :
    step s = exec i { s with inputs := rest } := by
  simp only [step, h]
  cases inp <;> simp_all [decodeInput, stepInput]

end Sys2Proof.Laws
end

