-- ==== Sys2Proof/Laws/State.lean ====
section
/-! SUPPORT. One lemma per field per named update of State, so that no proof unfolds a record update. -/

namespace Sys2Proof.Laws

open Sys2Proof.Machine

variable (s : State)

/-! ### setCrc -/

@[simp] theorem setCrc_cfg (c : Half) : (s.setCrc c).cfg = s.cfg := rfl
@[simp] theorem setCrc_crc (c : Half) : (s.setCrc c).crc = c := rfl
@[simp] theorem setCrc_rxBuf (c : Half) : (s.setCrc c).rxBuf = s.rxBuf := rfl
@[simp] theorem setCrc_rxLen (c : Half) : (s.setCrc c).rxLen = s.rxLen := rfl
@[simp] theorem setCrc_rxPresent (c : Half) : (s.setCrc c).rxPresent = s.rxPresent := rfl
@[simp] theorem setCrc_rxClass (c : Half) : (s.setCrc c).rxClass = s.rxClass := rfl
@[simp] theorem setCrc_txBuilt (c : Half) : (s.setCrc c).txBuilt = s.txBuilt := rfl
@[simp] theorem setCrc_txDev (c : Half) : (s.setCrc c).txDev = s.txDev := rfl
@[simp] theorem setCrc_txCmd (c : Half) : (s.setCrc c).txCmd = s.txCmd := rfl
@[simp] theorem setCrc_txAct (c : Half) : (s.setCrc c).txAct = s.txAct := rfl
@[simp] theorem setCrc_txArg1 (c : Half) : (s.setCrc c).txArg1 = s.txArg1 := rfl
@[simp] theorem setCrc_txArg2 (c : Half) : (s.setCrc c).txArg2 = s.txArg2 := rfl
@[simp] theorem setCrc_txSize (c : Half) : (s.setCrc c).txSize = s.txSize := rfl
@[simp] theorem setCrc_txPl (c : Half) : (s.setCrc c).txPl = s.txPl := rfl
@[simp] theorem setCrc_txBuf (c : Half) : (s.setCrc c).txBuf = s.txBuf := rfl
@[simp] theorem setCrc_txLen (c : Half) : (s.setCrc c).txLen = s.txLen := rfl
@[simp] theorem setCrc_inputs (c : Half) : (s.setCrc c).inputs = s.inputs := rfl
@[simp] theorem setCrc_outputs (c : Half) : (s.setCrc c).outputs = s.outputs := rfl
@[simp] theorem setCrc_slices (c : Half) : (s.setCrc c).slices = s.slices := rfl

/-! ### loadRx -/

@[simp] theorem loadRx_cfg (bs : List Byte) : (s.loadRx bs).cfg = s.cfg := rfl
@[simp] theorem loadRx_crc (bs : List Byte) : (s.loadRx bs).crc = s.crc := rfl
@[simp] theorem loadRx_rxBuf (bs : List Byte) : (s.loadRx bs).rxBuf = Memory.writeBytes s.rxBuf 0 bs := rfl
@[simp] theorem loadRx_rxLen (bs : List Byte) : (s.loadRx bs).rxLen = bs.length := rfl
@[simp] theorem loadRx_rxPresent (bs : List Byte) : (s.loadRx bs).rxPresent = true := rfl
@[simp] theorem loadRx_rxClass (bs : List Byte) : (s.loadRx bs).rxClass = classify true (Memory.writeBytes s.rxBuf 0 bs) bs.length := rfl
@[simp] theorem loadRx_txBuilt (bs : List Byte) : (s.loadRx bs).txBuilt = s.txBuilt := rfl
@[simp] theorem loadRx_txDev (bs : List Byte) : (s.loadRx bs).txDev = s.txDev := rfl
@[simp] theorem loadRx_txCmd (bs : List Byte) : (s.loadRx bs).txCmd = s.txCmd := rfl
@[simp] theorem loadRx_txAct (bs : List Byte) : (s.loadRx bs).txAct = s.txAct := rfl
@[simp] theorem loadRx_txArg1 (bs : List Byte) : (s.loadRx bs).txArg1 = s.txArg1 := rfl
@[simp] theorem loadRx_txArg2 (bs : List Byte) : (s.loadRx bs).txArg2 = s.txArg2 := rfl
@[simp] theorem loadRx_txSize (bs : List Byte) : (s.loadRx bs).txSize = s.txSize := rfl
@[simp] theorem loadRx_txPl (bs : List Byte) : (s.loadRx bs).txPl = s.txPl := rfl
@[simp] theorem loadRx_txBuf (bs : List Byte) : (s.loadRx bs).txBuf = s.txBuf := rfl
@[simp] theorem loadRx_txLen (bs : List Byte) : (s.loadRx bs).txLen = s.txLen := rfl
@[simp] theorem loadRx_inputs (bs : List Byte) : (s.loadRx bs).inputs = s.inputs := rfl
@[simp] theorem loadRx_outputs (bs : List Byte) : (s.loadRx bs).outputs = s.outputs := rfl
@[simp] theorem loadRx_slices (bs : List Byte) : (s.loadRx bs).slices = [] := rfl

/-! ### dropRx -/

@[simp] theorem dropRx_cfg : (s.dropRx).cfg = s.cfg := rfl
@[simp] theorem dropRx_crc : (s.dropRx).crc = s.crc := rfl
@[simp] theorem dropRx_rxBuf : (s.dropRx).rxBuf = s.rxBuf := rfl
@[simp] theorem dropRx_rxLen : (s.dropRx).rxLen = 0 := rfl
@[simp] theorem dropRx_rxPresent : (s.dropRx).rxPresent = false := rfl
@[simp] theorem dropRx_rxClass : (s.dropRx).rxClass = .empty := rfl
@[simp] theorem dropRx_txBuilt : (s.dropRx).txBuilt = s.txBuilt := rfl
@[simp] theorem dropRx_txDev : (s.dropRx).txDev = s.txDev := rfl
@[simp] theorem dropRx_txCmd : (s.dropRx).txCmd = s.txCmd := rfl
@[simp] theorem dropRx_txAct : (s.dropRx).txAct = s.txAct := rfl
@[simp] theorem dropRx_txArg1 : (s.dropRx).txArg1 = s.txArg1 := rfl
@[simp] theorem dropRx_txArg2 : (s.dropRx).txArg2 = s.txArg2 := rfl
@[simp] theorem dropRx_txSize : (s.dropRx).txSize = s.txSize := rfl
@[simp] theorem dropRx_txPl : (s.dropRx).txPl = s.txPl := rfl
@[simp] theorem dropRx_txBuf : (s.dropRx).txBuf = s.txBuf := rfl
@[simp] theorem dropRx_txLen : (s.dropRx).txLen = s.txLen := rfl
@[simp] theorem dropRx_inputs : (s.dropRx).inputs = s.inputs := rfl
@[simp] theorem dropRx_outputs : (s.dropRx).outputs = s.outputs := rfl
@[simp] theorem dropRx_slices : (s.dropRx).slices = [] := rfl

/-! ### discardTx -/

@[simp] theorem discardTx_cfg : (s.discardTx).cfg = s.cfg := rfl
@[simp] theorem discardTx_crc : (s.discardTx).crc = s.crc := rfl
@[simp] theorem discardTx_rxBuf : (s.discardTx).rxBuf = s.rxBuf := rfl
@[simp] theorem discardTx_rxLen : (s.discardTx).rxLen = s.rxLen := rfl
@[simp] theorem discardTx_rxPresent : (s.discardTx).rxPresent = s.rxPresent := rfl
@[simp] theorem discardTx_rxClass : (s.discardTx).rxClass = s.rxClass := rfl
@[simp] theorem discardTx_txBuilt : (s.discardTx).txBuilt = false := rfl
@[simp] theorem discardTx_txDev : (s.discardTx).txDev = s.txDev := rfl
@[simp] theorem discardTx_txCmd : (s.discardTx).txCmd = s.txCmd := rfl
@[simp] theorem discardTx_txAct : (s.discardTx).txAct = s.txAct := rfl
@[simp] theorem discardTx_txArg1 : (s.discardTx).txArg1 = s.txArg1 := rfl
@[simp] theorem discardTx_txArg2 : (s.discardTx).txArg2 = s.txArg2 := rfl
@[simp] theorem discardTx_txSize : (s.discardTx).txSize = s.txSize := rfl
@[simp] theorem discardTx_txPl : (s.discardTx).txPl = s.txPl := rfl
@[simp] theorem discardTx_txBuf : (s.discardTx).txBuf = s.txBuf := rfl
@[simp] theorem discardTx_txLen : (s.discardTx).txLen = 0 := rfl
@[simp] theorem discardTx_inputs : (s.discardTx).inputs = s.inputs := rfl
@[simp] theorem discardTx_outputs : (s.discardTx).outputs = s.outputs := rfl
@[simp] theorem discardTx_slices : (s.discardTx).slices = s.slices := rfl

/-! ### latchTx -/

@[simp] theorem latchTx_cfg (dev cmd act arg1 arg2 size : Word) (pl : List Byte) : (s.latchTx dev cmd act arg1 arg2 size pl).cfg = s.cfg := rfl
@[simp] theorem latchTx_crc (dev cmd act arg1 arg2 size : Word) (pl : List Byte) : (s.latchTx dev cmd act arg1 arg2 size pl).crc = s.crc := rfl
@[simp] theorem latchTx_rxBuf (dev cmd act arg1 arg2 size : Word) (pl : List Byte) : (s.latchTx dev cmd act arg1 arg2 size pl).rxBuf = s.rxBuf := rfl
@[simp] theorem latchTx_rxLen (dev cmd act arg1 arg2 size : Word) (pl : List Byte) : (s.latchTx dev cmd act arg1 arg2 size pl).rxLen = s.rxLen := rfl
@[simp] theorem latchTx_rxPresent (dev cmd act arg1 arg2 size : Word) (pl : List Byte) : (s.latchTx dev cmd act arg1 arg2 size pl).rxPresent = s.rxPresent := rfl
@[simp] theorem latchTx_rxClass (dev cmd act arg1 arg2 size : Word) (pl : List Byte) : (s.latchTx dev cmd act arg1 arg2 size pl).rxClass = s.rxClass := rfl
@[simp] theorem latchTx_txBuilt (dev cmd act arg1 arg2 size : Word) (pl : List Byte) : (s.latchTx dev cmd act arg1 arg2 size pl).txBuilt = true := rfl
@[simp] theorem latchTx_txDev (dev cmd act arg1 arg2 size : Word) (pl : List Byte) : (s.latchTx dev cmd act arg1 arg2 size pl).txDev = dev := rfl
@[simp] theorem latchTx_txCmd (dev cmd act arg1 arg2 size : Word) (pl : List Byte) : (s.latchTx dev cmd act arg1 arg2 size pl).txCmd = cmd := rfl
@[simp] theorem latchTx_txAct (dev cmd act arg1 arg2 size : Word) (pl : List Byte) : (s.latchTx dev cmd act arg1 arg2 size pl).txAct = act := rfl
@[simp] theorem latchTx_txArg1 (dev cmd act arg1 arg2 size : Word) (pl : List Byte) : (s.latchTx dev cmd act arg1 arg2 size pl).txArg1 = arg1 := rfl
@[simp] theorem latchTx_txArg2 (dev cmd act arg1 arg2 size : Word) (pl : List Byte) : (s.latchTx dev cmd act arg1 arg2 size pl).txArg2 = arg2 := rfl
@[simp] theorem latchTx_txSize (dev cmd act arg1 arg2 size : Word) (pl : List Byte) : (s.latchTx dev cmd act arg1 arg2 size pl).txSize = size := rfl
@[simp] theorem latchTx_txPl (dev cmd act arg1 arg2 size : Word) (pl : List Byte) : (s.latchTx dev cmd act arg1 arg2 size pl).txPl = pl := rfl
@[simp] theorem latchTx_txBuf (dev cmd act arg1 arg2 size : Word) (pl : List Byte) : (s.latchTx dev cmd act arg1 arg2 size pl).txBuf = s.txBuf := rfl
@[simp] theorem latchTx_txLen (dev cmd act arg1 arg2 size : Word) (pl : List Byte) : (s.latchTx dev cmd act arg1 arg2 size pl).txLen = 0 := rfl
@[simp] theorem latchTx_inputs (dev cmd act arg1 arg2 size : Word) (pl : List Byte) : (s.latchTx dev cmd act arg1 arg2 size pl).inputs = s.inputs := rfl
@[simp] theorem latchTx_outputs (dev cmd act arg1 arg2 size : Word) (pl : List Byte) : (s.latchTx dev cmd act arg1 arg2 size pl).outputs = s.outputs := rfl
@[simp] theorem latchTx_slices (dev cmd act arg1 arg2 size : Word) (pl : List Byte) : (s.latchTx dev cmd act arg1 arg2 size pl).slices = s.slices := rfl

/-! ### storeTx -/

@[simp] theorem storeTx_cfg (frame : List Byte) : (s.storeTx frame).cfg = s.cfg := rfl
@[simp] theorem storeTx_crc (frame : List Byte) : (s.storeTx frame).crc = s.crc := rfl
@[simp] theorem storeTx_rxBuf (frame : List Byte) : (s.storeTx frame).rxBuf = s.rxBuf := rfl
@[simp] theorem storeTx_rxLen (frame : List Byte) : (s.storeTx frame).rxLen = s.rxLen := rfl
@[simp] theorem storeTx_rxPresent (frame : List Byte) : (s.storeTx frame).rxPresent = s.rxPresent := rfl
@[simp] theorem storeTx_rxClass (frame : List Byte) : (s.storeTx frame).rxClass = s.rxClass := rfl
@[simp] theorem storeTx_txBuilt (frame : List Byte) : (s.storeTx frame).txBuilt = s.txBuilt := rfl
@[simp] theorem storeTx_txDev (frame : List Byte) : (s.storeTx frame).txDev = s.txDev := rfl
@[simp] theorem storeTx_txCmd (frame : List Byte) : (s.storeTx frame).txCmd = s.txCmd := rfl
@[simp] theorem storeTx_txAct (frame : List Byte) : (s.storeTx frame).txAct = s.txAct := rfl
@[simp] theorem storeTx_txArg1 (frame : List Byte) : (s.storeTx frame).txArg1 = s.txArg1 := rfl
@[simp] theorem storeTx_txArg2 (frame : List Byte) : (s.storeTx frame).txArg2 = s.txArg2 := rfl
@[simp] theorem storeTx_txSize (frame : List Byte) : (s.storeTx frame).txSize = s.txSize := rfl
@[simp] theorem storeTx_txPl (frame : List Byte) : (s.storeTx frame).txPl = s.txPl := rfl
@[simp] theorem storeTx_txBuf (frame : List Byte) : (s.storeTx frame).txBuf = Memory.writeBytes s.txBuf 0 frame := rfl
@[simp] theorem storeTx_txLen (frame : List Byte) : (s.storeTx frame).txLen = frame.length := rfl
@[simp] theorem storeTx_inputs (frame : List Byte) : (s.storeTx frame).inputs = s.inputs := rfl
@[simp] theorem storeTx_outputs (frame : List Byte) : (s.storeTx frame).outputs = s.outputs := rfl
@[simp] theorem storeTx_slices (frame : List Byte) : (s.storeTx frame).slices = s.slices := rfl

/-! ### emit -/

@[simp] theorem emit_cfg (o : Output) : (s.emit o).cfg = s.cfg := rfl
@[simp] theorem emit_crc (o : Output) : (s.emit o).crc = s.crc := rfl
@[simp] theorem emit_rxBuf (o : Output) : (s.emit o).rxBuf = s.rxBuf := rfl
@[simp] theorem emit_rxLen (o : Output) : (s.emit o).rxLen = s.rxLen := rfl
@[simp] theorem emit_rxPresent (o : Output) : (s.emit o).rxPresent = s.rxPresent := rfl
@[simp] theorem emit_rxClass (o : Output) : (s.emit o).rxClass = s.rxClass := rfl
@[simp] theorem emit_txBuilt (o : Output) : (s.emit o).txBuilt = s.txBuilt := rfl
@[simp] theorem emit_txDev (o : Output) : (s.emit o).txDev = s.txDev := rfl
@[simp] theorem emit_txCmd (o : Output) : (s.emit o).txCmd = s.txCmd := rfl
@[simp] theorem emit_txAct (o : Output) : (s.emit o).txAct = s.txAct := rfl
@[simp] theorem emit_txArg1 (o : Output) : (s.emit o).txArg1 = s.txArg1 := rfl
@[simp] theorem emit_txArg2 (o : Output) : (s.emit o).txArg2 = s.txArg2 := rfl
@[simp] theorem emit_txSize (o : Output) : (s.emit o).txSize = s.txSize := rfl
@[simp] theorem emit_txPl (o : Output) : (s.emit o).txPl = s.txPl := rfl
@[simp] theorem emit_txBuf (o : Output) : (s.emit o).txBuf = s.txBuf := rfl
@[simp] theorem emit_txLen (o : Output) : (s.emit o).txLen = s.txLen := rfl
@[simp] theorem emit_inputs (o : Output) : (s.emit o).inputs = s.inputs := rfl
@[simp] theorem emit_outputs (o : Output) : (s.emit o).outputs = s.outputs ++ [o] := rfl
@[simp] theorem emit_slices (o : Output) : (s.emit o).slices = s.slices := rfl

/-! ### grant -/

@[simp] theorem grant_cfg (sl : Slice) : (s.grant sl).cfg = s.cfg := rfl
@[simp] theorem grant_crc (sl : Slice) : (s.grant sl).crc = s.crc := rfl
@[simp] theorem grant_rxBuf (sl : Slice) : (s.grant sl).rxBuf = s.rxBuf := rfl
@[simp] theorem grant_rxLen (sl : Slice) : (s.grant sl).rxLen = s.rxLen := rfl
@[simp] theorem grant_rxPresent (sl : Slice) : (s.grant sl).rxPresent = s.rxPresent := rfl
@[simp] theorem grant_rxClass (sl : Slice) : (s.grant sl).rxClass = s.rxClass := rfl
@[simp] theorem grant_txBuilt (sl : Slice) : (s.grant sl).txBuilt = s.txBuilt := rfl
@[simp] theorem grant_txDev (sl : Slice) : (s.grant sl).txDev = s.txDev := rfl
@[simp] theorem grant_txCmd (sl : Slice) : (s.grant sl).txCmd = s.txCmd := rfl
@[simp] theorem grant_txAct (sl : Slice) : (s.grant sl).txAct = s.txAct := rfl
@[simp] theorem grant_txArg1 (sl : Slice) : (s.grant sl).txArg1 = s.txArg1 := rfl
@[simp] theorem grant_txArg2 (sl : Slice) : (s.grant sl).txArg2 = s.txArg2 := rfl
@[simp] theorem grant_txSize (sl : Slice) : (s.grant sl).txSize = s.txSize := rfl
@[simp] theorem grant_txPl (sl : Slice) : (s.grant sl).txPl = s.txPl := rfl
@[simp] theorem grant_txBuf (sl : Slice) : (s.grant sl).txBuf = s.txBuf := rfl
@[simp] theorem grant_txLen (sl : Slice) : (s.grant sl).txLen = s.txLen := rfl
@[simp] theorem grant_inputs (sl : Slice) : (s.grant sl).inputs = s.inputs := rfl
@[simp] theorem grant_outputs (sl : Slice) : (s.grant sl).outputs = s.outputs := rfl
@[simp] theorem grant_slices (sl : Slice) : (s.grant sl).slices = if sl ∈ s.slices then s.slices else sl :: s.slices := rfl

/-! ### resetEvent -/

@[simp] theorem resetEvent_cfg : (resetEvent s).cfg = s.cfg := rfl
@[simp] theorem resetEvent_crc : (resetEvent s).crc = 0 := rfl
@[simp] theorem resetEvent_rxBuf : (resetEvent s).rxBuf = [] := rfl
@[simp] theorem resetEvent_rxLen : (resetEvent s).rxLen = 0 := rfl
@[simp] theorem resetEvent_rxPresent : (resetEvent s).rxPresent = false := rfl
@[simp] theorem resetEvent_rxClass : (resetEvent s).rxClass = .empty := rfl
@[simp] theorem resetEvent_txBuilt : (resetEvent s).txBuilt = false := rfl
@[simp] theorem resetEvent_txDev : (resetEvent s).txDev = 0 := rfl
@[simp] theorem resetEvent_txCmd : (resetEvent s).txCmd = 0 := rfl
@[simp] theorem resetEvent_txAct : (resetEvent s).txAct = 0 := rfl
@[simp] theorem resetEvent_txArg1 : (resetEvent s).txArg1 = 0 := rfl
@[simp] theorem resetEvent_txArg2 : (resetEvent s).txArg2 = 0 := rfl
@[simp] theorem resetEvent_txSize : (resetEvent s).txSize = 0 := rfl
@[simp] theorem resetEvent_txPl : (resetEvent s).txPl = [] := rfl
@[simp] theorem resetEvent_txBuf : (resetEvent s).txBuf = [] := rfl
@[simp] theorem resetEvent_txLen : (resetEvent s).txLen = 0 := rfl
@[simp] theorem resetEvent_inputs : (resetEvent s).inputs = s.inputs := rfl
@[simp] theorem resetEvent_outputs : (resetEvent s).outputs = [] := rfl
@[simp] theorem resetEvent_slices : (resetEvent s).slices = [] := rfl

/-! ### withFetchWord -/

@[simp] theorem withFetchWord_cfg (nbits w : Nat) : (s.withFetchWord nbits w).cfg = s.cfg := rfl
@[simp] theorem withFetchWord_crc (nbits w : Nat) : (s.withFetchWord nbits w).crc = s.crc := rfl
@[simp] theorem withFetchWord_rxBuf (nbits w : Nat) : (s.withFetchWord nbits w).rxBuf = s.rxBuf := rfl
@[simp] theorem withFetchWord_rxLen (nbits w : Nat) : (s.withFetchWord nbits w).rxLen = s.rxLen := rfl
@[simp] theorem withFetchWord_rxPresent (nbits w : Nat) : (s.withFetchWord nbits w).rxPresent = s.rxPresent := rfl
@[simp] theorem withFetchWord_rxClass (nbits w : Nat) : (s.withFetchWord nbits w).rxClass = s.rxClass := rfl
@[simp] theorem withFetchWord_txBuilt (nbits w : Nat) : (s.withFetchWord nbits w).txBuilt = s.txBuilt := rfl
@[simp] theorem withFetchWord_txDev (nbits w : Nat) : (s.withFetchWord nbits w).txDev = s.txDev := rfl
@[simp] theorem withFetchWord_txCmd (nbits w : Nat) : (s.withFetchWord nbits w).txCmd = s.txCmd := rfl
@[simp] theorem withFetchWord_txAct (nbits w : Nat) : (s.withFetchWord nbits w).txAct = s.txAct := rfl
@[simp] theorem withFetchWord_txArg1 (nbits w : Nat) : (s.withFetchWord nbits w).txArg1 = s.txArg1 := rfl
@[simp] theorem withFetchWord_txArg2 (nbits w : Nat) : (s.withFetchWord nbits w).txArg2 = s.txArg2 := rfl
@[simp] theorem withFetchWord_txSize (nbits w : Nat) : (s.withFetchWord nbits w).txSize = s.txSize := rfl
@[simp] theorem withFetchWord_txPl (nbits w : Nat) : (s.withFetchWord nbits w).txPl = s.txPl := rfl
@[simp] theorem withFetchWord_txBuf (nbits w : Nat) : (s.withFetchWord nbits w).txBuf = s.txBuf := rfl
@[simp] theorem withFetchWord_txLen (nbits w : Nat) : (s.withFetchWord nbits w).txLen = s.txLen := rfl
@[simp] theorem withFetchWord_inputs (nbits w : Nat) : (s.withFetchWord nbits w).inputs = tableInput nbits w :: s.inputs := rfl
@[simp] theorem withFetchWord_outputs (nbits w : Nat) : (s.withFetchWord nbits w).outputs = s.outputs := rfl
@[simp] theorem withFetchWord_slices (nbits w : Nat) : (s.withFetchWord nbits w).slices = s.slices := rfl

end Sys2Proof.Laws
end

