-- ==== Sys2Proof/Laws/Ops.lean ====
section
/-! SUPPORT. One spec lemma per shared operation, which proofs cite instead of unfolding it. -/

namespace Sys2Proof.Laws

open Sys2Proof.Machine Sys2Proof.Safety

/-! ### Responses -/

theorem respond_eq (s : State) (r : Response) : respond s r = .next (answered s r) := rfl

theorem raise_eq (s : State) (st : Status) : raise s st = .next (answered s (notOk st)) := rfl

theorem respondValue_eq (s : State) (v : Word) :
    respondValue s v = .next (answered s (okValue v)) := rfl

theorem respondSlice_eq (s : State) (v : Word) (off len : Nat) :
    respondSlice s v off len
      = .next { answered s ⟨.ok, v, u32 off, u32 len⟩ with slices := (s.grant ⟨off, len⟩).slices } :=
  rfl

theorem finish_ok {s : State} {e : Except Status Word} {v : Word} (h : e = .ok v) :
    finish s e = .next (answered s (okValue v)) := by subst h; rfl

theorem finish_error {s : State} {e : Except Status Word} {st : Status} (h : e = .error st) :
    finish s e = .next (answered s (notOk st)) := by subst h; rfl

theorem mem_grant (s : State) (sl x : Slice) :
    x ∈ (s.grant sl).slices ↔ x = sl ∨ x ∈ s.slices := by
  simp only [grant_slices]
  split
  · constructor
    · exact Or.inr
    · rintro (rfl | h) <;> assumption
  · simp

/-- A slice already held is not granted again. -/
theorem grant_of_mem {s : State} {sl : Slice} (h : sl ∈ s.slices) : s.grant sl = s := by
  simp [State.grant, h]

/-! ### Words of RX -/

theorem readWord_toNat (m : Memory) (off : Nat) : (Memory.readWord m off).toNat = leNat m off := by
  simp [Memory.readWord, leWord_toNat, leNat]

@[simp] theorem rxWord_toNat (s : State) (off : Nat) : (rxWord s off).toNat = leNat s.rxBuf off :=
  readWord_toNat s.rxBuf off

theorem leNat_lt (m : Memory) (off : Nat) : leNat m off < 2 ^ 32 := by
  rw [← readWord_toNat]; exact (Memory.readWord m off).isLt

/-! ### The common first steps (R124, R140, R150, R156) -/

theorem requireFrame_ok {s : State} (hc : s.rxClass = .command ∨ s.rxClass = .telemetry)
    (hl : 8 ≤ s.rxLen) : requireFrame s = .ok (rxWord s 4) := by
  have hl' : ¬ s.rxLen < FH := Nat.not_lt.mpr hl
  rcases hc with hc | hc <;> simp [requireFrame, hc, hl']

theorem commandField_ok {s : State} {off : Nat} (hc : s.rxClass = .command)
    (hl : off + 4 ≤ s.rxLen) : commandField s off = .ok (rxWord s off) := by
  simp [commandField, requireCommand, hc, Nat.not_lt.mpr hl]

theorem telemetryField_ok {s : State} {off : Nat} (hc : s.rxClass = .telemetry)
    (hl : off + 4 ≤ s.rxLen) : telemetryField s off = .ok (rxWord s off) := by
  simp [telemetryField, requireTelemetry, hc, Nat.not_lt.mpr hl]

theorem resolveRecord_ok {s : State} {index : Word} (h : RecordReadable s index) :
    resolveRecord s index = .ok (24 + 32 * index.toNat) := by
  have h1 := h.headerPresent
  have h2 := h.inCount
  have h3 := h.inBuffer
  simp only [resolveRecord, h.telemetry, rxWord_toNat, FH, TH, SR]
  rw [if_neg (by omega), if_neg (by omega), if_neg (by omega)]
  congr 1; omega

/-- `resolve_record` gives an offset in exactly one way: the record is readable and the offset is its. -/
theorem resolveRecord_eq_ok {s : State} {index : Word} {base : Nat}
    (h : resolveRecord s index = .ok base) :
    RecordReadable s index ∧ base = 24 + 32 * index.toNat := by
  simp only [resolveRecord, rxWord_toNat, FH, TH, SR] at h
  split at h
  · cases h
  · cases h
  · cases h
  · rename_i hc
    split at h
    · cases h
    split at h
    · cases h
    split at h
    · cases h
    cases h
    exact ⟨⟨hc, by omega, by omega, by omega⟩, by omega⟩

theorem recordWord_ok {s : State} {index : Word} (off : Nat) (h : RecordReadable s index) :
    recordWord s index off = .ok (rxWord s (24 + 32 * index.toNat + off)) := by
  simp [recordWord, resolveRecord_ok h]

theorem recordInfoField_ok {s : State} {index : Word} (lo : Nat) (mask : Word)
    (h : RecordReadable s index) :
    recordInfoField s index lo mask
      = .ok ((rxWord s (24 + 32 * index.toNat) >>> lo) &&& mask) := by
  simp [recordInfoField, recordWord_ok 0 h]

/-! ### Classification and loading (R120, R121) -/

/-- A load that fits (R120). -/
theorem loadBuffer_fits {s : State} {bs : List Byte} (h : bs.length ≤ s.cfg.rxBufBytes) :
    loadBuffer bs s = .next (answered (s.loadRx bs) (okValue (s.loadRx bs).rxClass.code)) := by
  simp [loadBuffer, Nat.not_lt.mpr h, respondValue_eq]

/-- A load that does not fit (R120, R177). -/
theorem loadBuffer_oversized {s : State} {bs : List Byte} (h : s.cfg.rxBufBytes < bs.length) :
    loadBuffer bs s = .next (answered s.dropRx (notOk .capacityExceeded)) := by
  simp [loadBuffer, h, raise_eq]

theorem payloadTooLong_iff (c : Config) (p : Nat) :
    payloadTooLong c p = false ↔ PayloadFits c p := by
  unfold payloadTooLong PayloadFits CH CKW
  cases c.txMaxPayload <;> simp <;> omega

theorem carriedPayload_eq (act : Word) (payload : Option (List Byte)) :
    carriedPayload act payload = keptPayload act payload := by
  cases payload <;> first | rfl | simp [carriedPayload, keptPayload]

@[simp] theorem frameBody_length (s : State) : (frameBody s).length = 28 + s.txPl.length := by
  simp [frameBody]; omega

@[simp] theorem frameBytes_length (s : State) : (frameBytes s).length = 32 + s.txPl.length := by
  simp [frameBytes]; omega

/-! ### answered -/

section answered
variable (s : State) (r : Response)
@[simp] theorem answered_cfg : (answered s r).cfg = s.cfg := rfl
@[simp] theorem answered_crc : (answered s r).crc = s.crc := rfl
@[simp] theorem answered_rxBuf : (answered s r).rxBuf = s.rxBuf := rfl
@[simp] theorem answered_rxLen : (answered s r).rxLen = s.rxLen := rfl
@[simp] theorem answered_rxPresent : (answered s r).rxPresent = s.rxPresent := rfl
@[simp] theorem answered_rxClass : (answered s r).rxClass = s.rxClass := rfl
@[simp] theorem answered_txBuilt : (answered s r).txBuilt = s.txBuilt := rfl
@[simp] theorem answered_txDev : (answered s r).txDev = s.txDev := rfl
@[simp] theorem answered_txCmd : (answered s r).txCmd = s.txCmd := rfl
@[simp] theorem answered_txAct : (answered s r).txAct = s.txAct := rfl
@[simp] theorem answered_txArg1 : (answered s r).txArg1 = s.txArg1 := rfl
@[simp] theorem answered_txArg2 : (answered s r).txArg2 = s.txArg2 := rfl
@[simp] theorem answered_txSize : (answered s r).txSize = s.txSize := rfl
@[simp] theorem answered_txPl : (answered s r).txPl = s.txPl := rfl
@[simp] theorem answered_txBuf : (answered s r).txBuf = s.txBuf := rfl
@[simp] theorem answered_txLen : (answered s r).txLen = s.txLen := rfl
@[simp] theorem answered_inputs : (answered s r).inputs = s.inputs := rfl
@[simp] theorem answered_outputs :
    (answered s r).outputs = s.outputs ++ [.response r] := rfl
@[simp] theorem answered_slices : (answered s r).slices = s.slices := rfl
end answered

end Sys2Proof.Laws
end

