-- ==== Sys2Proof/Laws/Exec.lean ====
section
/-! SUPPORT. What `exec` can do, once per kind of operation: the operations that read, the load of a
buffer, the build and the serialisation of a frame. Proofs cite these instead of unfolding meanings. -/

namespace Sys2Proof.Laws

open Sys2Proof.Machine Sys2Proof.Safety

/-- How an operation that reads ends: with one response that names no slice, or with a slice. A response
that is not OK has zeros; a slice is empty or lies in the valid bytes. -/
def ReadAnswer (s : State) (x : Result) : Prop :=
  (∃ r : Response, x = .next (answered s r) ∧ (r.status ≠ .ok → r = notOk r.status)
    ∧ r.off = 0 ∧ r.len = 0)
  ∨ (∃ v off len, x = respondSlice s v off len ∧ (len = 0 ∨ off + len ≤ s.rxLen))

theorem finish_answers (s : State) (e : Except Status Word) : ReadAnswer s (finish s e) := by
  left
  cases e with
  | ok v => exact ⟨okValue v, rfl, by simp [okValue], rfl, rfl⟩
  | error st => exact ⟨notOk st, rfl, by simp [notOk], rfl, rfl⟩

theorem raise_answers (s : State) (st : Status) : ReadAnswer s (raise s st) :=
  finish_answers s (.error st)

theorem value_answers (s : State) (v : Word) : ReadAnswer s (respondValue s v) :=
  finish_answers s (.ok v)

theorem payloadSlice_answers (s : State) (off less : Nat) :
    ReadAnswer s (payloadSlice s off less) := by
  simp only [payloadSlice]
  split
  · exact .inr ⟨_, _, _, rfl, .inl rfl⟩
  · split
    · exact raise_answers _ _
    · exact .inr ⟨_, _, _, rfl, .inr (by omega)⟩

/-- Every operation that reads ends as `ReadAnswer` says. -/
theorem exec_reads {i : Instr} (s : State) (h : readsOnly i = true) : ReadAnswer s (exec i s) := by
  cases i <;> simp only [readsOnly, Bool.false_eq_true] at h <;> simp only [exec]
  case crcRead => exact value_answers _ _
  case txLength => exact value_answers _ _
  case rxClassify => exact value_answers _ _
  case rxComplete =>
    unfold execRxComplete; split
    · exact raise_answers _ _
    · exact value_answers _ _
  case rxVerify =>
    unfold execRxVerify; split
    · exact raise_answers _ _
    · split
      · exact raise_answers _ _
      · simp only; split
        · exact value_answers _ _
        · exact raise_answers _ _
  case cmdIsAck =>
    unfold execCmdIsAck; split
    · exact raise_answers _ _
    · exact value_answers _ _
  case cmdIsNak =>
    unfold execCmdIsNak; split
    · exact raise_answers _ _
    · exact value_answers _ _
  case cmdPayload =>
    unfold execCmdPayload; split
    · exact raise_answers _ _
    · exact payloadSlice_answers _ _ _
  case tlmPayload =>
    unfold execTlmPayload; split
    · exact raise_answers _ _
    · exact payloadSlice_answers _ _ _
  case srPosition =>
    unfold execSrPosition; split
    · exact finish_answers _ _
    · exact raise_answers _ _
  case srOrientation =>
    unfold execSrOrientation; split
    · exact finish_answers _ _
    · exact raise_answers _ _
  case tlmSensorRecord idx =>
    unfold execTlmSensorRecord; split
    · exact raise_answers _ _
    · rename_i b hb
      obtain ⟨hr, rfl⟩ := resolveRecord_eq_ok hb
      exact .inr ⟨_, _, _, rfl, .inr hr.inBuffer⟩
  all_goals exact finish_answers _ _

theorem exec_txBuild (dev cmd act a1 a2 : Word) (p : Option (List Byte)) (s : State) :
    exec (.txBuild dev cmd act a1 a2 p) s =
      if payloadTooLong s.cfg (keptPayload act p).length
      then .next (answered s.discardTx (notOk .capacityExceeded))
      else .next (answered (s.latchTx dev cmd act a1 a2 (u32 (24 + (keptPayload act p).length))
        (keptPayload act p)) (okValue (u32 (24 + (keptPayload act p).length)))) := by
  simp only [exec, execTxBuild, carriedPayload_eq]
  have : CH + (keptPayload act p).length + CKW = 24 + (keptPayload act p).length := by
    simp only [CH, CKW]; omega
  rw [this]; rfl

theorem exec_txSerialize (s : State) :
    exec .txSerialize s =
      if s.txBuilt = false then .next (answered s (notOk .naEmpty))
      else .next (answered (s.storeTx (frameBytes s))
        (okValue (lengthValue Config.serializeLengthBeyondWord (frameBytes s).length))) := rfl

theorem commandMark_eq : le32 commandPreamble = commandMark := by decide

theorem telemetryMark_eq : le32 telemetryPreamble = telemetryMark := by decide

/-- RX_LOAD and the two wire-frame rows load their buffer. -/
theorem exec_loads {i : Instr} {bs : List Byte} (s : State) (h : loadedBytes i = some bs) :
    exec i s = loadBuffer bs s := by
  cases i <;> simp only [loadedBytes, reduceCtorEq, Option.some.injEq] at h <;> subst h
  · rfl
  · rw [← commandMark_eq]; rfl
  · rw [← telemetryMark_eq]; rfl

/-- Every operation answers once, and leaves the inputs and the parameters. -/
theorem exec_answers (i : Instr) (s : State) :
    ∃ t r, exec i s = .next t ∧ t.outputs = s.outputs ++ [.response r] ∧ t.inputs = s.inputs
      ∧ t.cfg = s.cfg := by
  by_cases h : readsOnly i = true
  · rcases exec_reads s h with ⟨r, hr, -⟩ | ⟨v, off, len, hr, -⟩
    · exact ⟨_, r, hr, rfl, rfl, rfl⟩
    · exact ⟨_, _, hr, rfl, rfl, rfl⟩
  · cases hl : loadedBytes i with
    | some bs =>
      rw [exec_loads s hl]
      by_cases hf : bs.length ≤ s.cfg.rxBufBytes
      · exact ⟨_, _, loadBuffer_fits hf, rfl, rfl, rfl⟩
      · exact ⟨_, _, loadBuffer_oversized (by omega), rfl, rfl, rfl⟩
    | none =>
      cases i <;> simp only [readsOnly, not_true_eq_false, loadedBytes, reduceCtorEq] at h hl
      case crcClear => exact ⟨_, _, rfl, rfl, rfl, rfl⟩
      case crcByte => exact ⟨_, _, rfl, rfl, rfl, rfl⟩
      case rxRelease => exact ⟨_, _, rfl, rfl, rfl, rfl⟩
      case txBuild => rw [exec_txBuild]; split <;> exact ⟨_, _, rfl, rfl, rfl, rfl⟩
      case txSerialize => rw [exec_txSerialize]; split <;> exact ⟨_, _, rfl, rfl, rfl, rfl⟩

/-! ### The frame's bytes depend on the latched frame alone -/

theorem frameBytes_congr {a b : State} (h1 : a.txSize = b.txSize) (h2 : a.txDev = b.txDev)
    (h3 : a.txCmd = b.txCmd) (h4 : a.txAct = b.txAct) (h5 : a.txArg1 = b.txArg1)
    (h6 : a.txArg2 = b.txArg2) (h7 : a.txPl = b.txPl) : frameBytes a = frameBytes b := by
  simp only [frameBytes, frameBody, h1, h2, h3, h4, h5, h6, h7]

/-- The class of a loaded buffer is R28's. -/
theorem classify_loaded {m : Memory} {bs : List Byte} (hw : Memory.wf m = true) :
    classify true (Memory.writeBytes m 0 bs) bs.length = classOfBytes bs := by
  unfold classify classOfBytes
  by_cases h0 : bs.length = 0
  · simp [h0]
  by_cases h3 : bs.length ≤ 3
  · simp [h0, h3, Nat.lt_succ_of_le h3]
  have h4 : ¬ bs.length < 4 := by omega
  simp only [h0, h3, h4, or_false, Bool.true_eq_false, if_false]
  have hr := readWord_writeBytes (m := m) (off := 0) (k := 0) (bs := bs) hw (by omega)
  simp only [Nat.zero_add] at hr
  rw [hr]
  have ht : bs.take 4 = [bs[0], bs[1], bs[2], bs[3]] := by
    rcases bs with _ | ⟨b0, _ | ⟨b1, _ | ⟨b2, _ | ⟨b3, rest⟩⟩⟩⟩ <;>
      first | rfl | (simp at h4)
  have key : ∀ (v : Word) (x0 x1 x2 x3 : Byte), leWord x0 x1 x2 x3 = v →
      (leWord bs[0] bs[1] bs[2] bs[3] = v ↔ bs.take 4 = [x0, x1, x2, x3]) := by
    intro v x0 x1 x2 x3 hv
    rw [ht, ← hv]
    constructor
    · intro h
      obtain ⟨a, b, c, d⟩ := leWord_inj h
      simp [a, b, c, d]
    · intro h
      simp only [List.cons.injEq, and_true] at h
      simp [h.1, h.2.1, h.2.2.1, h.2.2.2]
  have kc := key commandPreamble 0x56 0x50 0x52 0x42 (by decide)
  have kt := key telemetryPreamble 0x56 0x50 0x52 0x50 (by decide)
  simp only [kc, kt, commandMark, telemetryMark]
  congr

end Sys2Proof.Laws
end

