-- ==== Sys2Proof/Laws/PerInstr.lean ====
section
/-! SUPPORT. Per operation, as syntax: its encoding carries the match column of its row of the opcode
table (R82, R61), and no reserved bit. -/

namespace Sys2Proof.Laws.EncodedRow

open Sys2Proof.Machine Sys2Proof.Safety

/-- A request's `op` is the low byte of its row's match column and `rsv` is 0; a wire frame begins with
its row's preamble. -/
def Statement (i : Instr) : Prop :=
  match encode i with
  | .request r => r.rsv = 0 ∧ r.op = (rowPattern i).setWidth 8
  | .frame bs => preambleOf bs = some (rowPattern i)
  | .reset => False
  | .readRx _ _ => False
  | .readTx _ _ => False

theorem crcClear : Statement .crcClear := by
  simp [Statement, encode, OpCode.requestN, rowPattern, OpCode.byte]

theorem crcByte (b : Byte) : Statement (.crcByte b) := by
  simp [Statement, encode, rowPattern, OpCode.byte]

theorem crcRead : Statement .crcRead := by
  simp [Statement, encode, OpCode.requestN, rowPattern, OpCode.byte]

theorem txBuild (dev cmd act arg1 arg2 : Word) (payload : Option (List Byte)) :
    Statement (.txBuild dev cmd act arg1 arg2 payload) := by
  cases payload <;> simp [Statement, encode, rowPattern, OpCode.byte]

theorem txSerialize : Statement .txSerialize := by
  simp [Statement, encode, OpCode.requestN, rowPattern, OpCode.byte]

theorem txLength : Statement .txLength := by
  simp [Statement, encode, OpCode.requestN, rowPattern, OpCode.byte]

theorem rxLoad (bs : List Byte) : Statement (.rxLoad bs) := by
  simp [Statement, encode, rowPattern, OpCode.byte]

theorem rxRelease : Statement .rxRelease := by
  simp [Statement, encode, OpCode.requestN, rowPattern, OpCode.byte]

theorem rxClassify : Statement .rxClassify := by
  simp [Statement, encode, OpCode.requestN, rowPattern, OpCode.byte]

theorem rxSize : Statement .rxSize := by
  simp [Statement, encode, OpCode.requestN, rowPattern, OpCode.byte]

theorem rxComplete : Statement .rxComplete := by
  simp [Statement, encode, OpCode.requestN, rowPattern, OpCode.byte]

theorem rxVerify : Statement .rxVerify := by
  simp [Statement, encode, OpCode.requestN, rowPattern, OpCode.byte]

theorem cmdCommand : Statement .cmdCommand := by
  simp [Statement, encode, OpCode.requestN, rowPattern, OpCode.byte]

theorem cmdAction : Statement .cmdAction := by
  simp [Statement, encode, OpCode.requestN, rowPattern, OpCode.byte]

theorem cmdDeviceId : Statement .cmdDeviceId := by
  simp [Statement, encode, OpCode.requestN, rowPattern, OpCode.byte]

theorem cmdIsAck : Statement .cmdIsAck := by
  simp [Statement, encode, OpCode.requestN, rowPattern, OpCode.byte]

theorem cmdIsNak : Statement .cmdIsNak := by
  simp [Statement, encode, OpCode.requestN, rowPattern, OpCode.byte]

theorem cmdPayload : Statement .cmdPayload := by
  simp [Statement, encode, OpCode.requestN, rowPattern, OpCode.byte]

theorem tlmDeviceId : Statement .tlmDeviceId := by
  simp [Statement, encode, OpCode.requestN, rowPattern, OpCode.byte]

theorem tlmFrameCounter : Statement .tlmFrameCounter := by
  simp [Statement, encode, OpCode.requestN, rowPattern, OpCode.byte]

theorem tlmSensorCount : Statement .tlmSensorCount := by
  simp [Statement, encode, OpCode.requestN, rowPattern, OpCode.byte]

theorem tlmPayload : Statement .tlmPayload := by
  simp [Statement, encode, OpCode.requestN, rowPattern, OpCode.byte]

theorem tlmSensorRecord (index : Word) : Statement (.tlmSensorRecord index) := by
  simp [Statement, encode, OpCode.requestI, rowPattern, OpCode.byte]

theorem srInfo (index : Word) : Statement (.srInfo index) := by
  simp [Statement, encode, OpCode.requestI, rowPattern, OpCode.byte]

theorem srSensorNumber (index : Word) : Statement (.srSensorNumber index) := by
  simp [Statement, encode, OpCode.requestI, rowPattern, OpCode.byte]

theorem srIsVirtual (index : Word) : Statement (.srIsVirtual index) := by
  simp [Statement, encode, OpCode.requestI, rowPattern, OpCode.byte]

theorem srPositionUnits (index : Word) : Statement (.srPositionUnits index) := by
  simp [Statement, encode, OpCode.requestI, rowPattern, OpCode.byte]

theorem srOrientationUnits (index : Word) : Statement (.srOrientationUnits index) := by
  simp [Statement, encode, OpCode.requestI, rowPattern, OpCode.byte]

theorem srButton0 (index : Word) : Statement (.srButton0 index) := by
  simp [Statement, encode, OpCode.requestI, rowPattern, OpCode.byte]

theorem srButton1 (index : Word) : Statement (.srButton1 index) := by
  simp [Statement, encode, OpCode.requestI, rowPattern, OpCode.byte]

theorem srDistortionLevel (index : Word) : Statement (.srDistortionLevel index) := by
  simp [Statement, encode, OpCode.requestI, rowPattern, OpCode.byte]

theorem srAuxInput (index : Word) : Statement (.srAuxInput index) := by
  simp [Statement, encode, OpCode.requestI, rowPattern, OpCode.byte]

theorem srPosition (index : Word) (k : Byte) : Statement (.srPosition index k) := by
  simp [Statement, encode, OpCode.requestIK, rowPattern, OpCode.byte]

theorem srOrientation (index : Word) (k : Byte) : Statement (.srOrientation index k) := by
  simp [Statement, encode, OpCode.requestIK, rowPattern, OpCode.byte]

theorem frameCommand (rest : List Byte) : Statement (.frameCommand rest) := by
  simp [Statement, encode, rowPattern, commandPreamble]

theorem frameTelemetry (rest : List Byte) : Statement (.frameTelemetry rest) := by
  simp [Statement, encode, rowPattern, telemetryPreamble]

end Sys2Proof.Laws.EncodedRow
end

