-- ==== Sys2Proof/Tests/Slice0.lean ====
section
/-! SUPPORT. Tests. Expected results come from 95_test_vectors.md (its identifiers stand beside each
test) and from the encodings of R80 to R82, written out by hand; and one witness for the hypotheses of
each obligation that has any. -/

namespace Sys2Proof.Tests

-- One thread elaborates these: each theorem of its own thread reserves a large stack.
set_option Elab.async false

open Sys2Proof.Machine Sys2Proof.Safety Sys2Proof.Laws

/-! ### Small states -/

/-- Frame TX1 of 95_test_vectors.md: Get StationMap. -/
def TX1 : List Byte :=
  [0x56, 0x50, 0x52, 0x42, 0x18, 0x00, 0x00, 0x00, 0x07, 0x00, 0x00, 0x00, 0x0A, 0x00]
  ++ [0x00, 0x00, 0x01, 0x00, 0x00, 0x00, 0x00, 0x00, 0x00, 0x00, 0x00, 0x00, 0x00, 0x00]
  ++ [0xB4, 0xE5, 0x00, 0x00]

/-- Frame TX2 of 95_test_vectors.md: Set Units with three payload bytes. -/
def TX2 : List Byte :=
  [0x56, 0x50, 0x52, 0x42, 0x1B, 0x00, 0x00, 0x00, 0x01, 0x00, 0x00, 0x00, 0x07, 0x00]
  ++ [0x00, 0x00, 0x00, 0x00, 0x00, 0x00, 0x00, 0x00, 0x00, 0x00, 0x00, 0x00, 0x00, 0x00]
  ++ [0xAA, 0xBB, 0xCC, 0x1D, 0xD3, 0x00, 0x00]

/-- Frame TX4 of 95_test_vectors.md: an Ack. -/
def TX4 : List Byte :=
  [0x56, 0x50, 0x52, 0x42, 0x18, 0x00, 0x00, 0x00, 0x00, 0x00, 0x00, 0x00, 0x00, 0x00]
  ++ [0x00, 0x00, 0x03, 0x00, 0x00, 0x00, 0x00, 0x00, 0x00, 0x00, 0x00, 0x00, 0x00, 0x00]
  ++ [0x7E, 0x32, 0x00, 0x00]

/-- Frame TX5 of 95_test_vectors.md: a Nak. -/
def TX5 : List Byte :=
  [0x56, 0x50, 0x52, 0x42, 0x18, 0x00, 0x00, 0x00, 0x00, 0x00, 0x00, 0x00, 0x00, 0x00]
  ++ [0x00, 0x00, 0x04, 0x00, 0x00, 0x00, 0x44, 0x33, 0x22, 0x11, 0xDD, 0xCC, 0xBB, 0xAA]
  ++ [0x7F, 0x64, 0x00, 0x00]

/-- Frame T1 of 95_test_vectors.md: one sensor record. -/
def T1 : List Byte :=
  [0x56, 0x50, 0x52, 0x50, 0x34, 0x00, 0x00, 0x00, 0x01, 0x00, 0x00, 0x00, 0x10, 0x00]
  ++ [0x00, 0x00, 0x00, 0x00, 0x00, 0x00, 0x01, 0x00, 0x00, 0x00, 0x03, 0x5A, 0xC1, 0xFF]
  ++ [0x00, 0x00, 0x80, 0x3F, 0x00, 0x00, 0x00, 0x40, 0x00, 0x00, 0x60, 0xC0, 0x00, 0x00]
  ++ [0x80, 0x3F, 0x00, 0x00, 0x00, 0x00, 0x00, 0x00, 0x00, 0x00, 0x00, 0x00, 0x00, 0x00]
  ++ [0xD4, 0xD6, 0x00, 0x00]

/-- Frame T2 of 95_test_vectors.md: two sensor records. -/
def T2 : List Byte :=
  [0x56, 0x50, 0x52, 0x50, 0x54, 0x00, 0x00, 0x00, 0x02, 0x00, 0x00, 0x00, 0xFF, 0xFF]
  ++ [0xFF, 0xFF, 0xCD, 0xAB, 0x00, 0x00, 0x02, 0x00, 0x00, 0x00, 0x00, 0x00, 0x00, 0x00]
  ++ [0x00, 0x00, 0x00, 0x00, 0x00, 0x00, 0x00, 0x00, 0x00, 0x00, 0x00, 0x00, 0x00, 0x00]
  ++ [0x00, 0x00, 0x00, 0x00, 0x00, 0x00, 0x00, 0x00, 0x00, 0x00, 0x00, 0x00, 0x00, 0x00]
  ++ [0x81, 0xE7, 0x3F, 0x00, 0x00, 0x00, 0xC0, 0x7F, 0x00, 0x00, 0x00, 0x80, 0x01, 0x00]
  ++ [0x00, 0x00, 0x00, 0x00, 0x00, 0x3F, 0x00, 0x00, 0x00, 0xBF, 0x00, 0x00, 0x00, 0x3F]
  ++ [0x00, 0x00, 0x00, 0xBF, 0xA0, 0xEF, 0x00, 0x00]

/-- The state a result leads to; reset where it stops. -/
def stateOf : Result → State
  | .next t => t
  | .fault _ => State.reset
  | .refused _ => State.reset

/-- The last output of a result. -/
def lastOf : Result → Option Output
  | .next t => t.outputs.getLast?
  | .fault _ => none
  | .refused _ => none

/-- The fault a result stops with. -/
def faultOf : Result → Option Fault
  | .next _ => none
  | .fault f => some f
  | .refused _ => none

/-- The refusal a result stops with. -/
def refusalOf : Result → Option Refusal
  | .next _ => none
  | .fault _ => none
  | .refused r => some r

/-- A result that answers a response. -/
def gives (x : Result) (r : Response) : Prop := lastOf x = some (.response r)

/-- A block of parameters `c` after a run of operations from reset. -/
def ran (c : Config) (p : List Instr) : State := stateOf (runInstrs p (State.resetWith c))

/-- A block that holds received bytes. -/
def holding (bs : List Byte) : State := ran ⟨128, none⟩ [.rxLoad bs]

/-- The last response of one request put to a state. -/
def asked (s : State) (r : Request) : Option Output :=
  lastOf (step { s with inputs := [.request r] })

/-! ### Well-formedness: each check refuses an ill-formed term -/

theorem test_wf_refuses_position_component : WellFormed (.srPosition 0 3) = false := by decide

theorem test_wf_refuses_orientation_component : WellFormed (.srOrientation 0 4) = false := by decide

theorem test_wf_refuses_long_payload :
    WellFormed (.txBuild 0 0 0 0 0 (some (List.replicate (2 ^ 32) 0))) = false := by
  simp only [WellFormed, Instr.countFits, List.length_replicate, decide_eq_false_iff_not]; omega

theorem test_wf_refuses_long_buffer : WellFormed (.rxLoad (List.replicate (2 ^ 32) 0)) = false := by
  simp only [WellFormed, Instr.countFits, List.length_replicate, decide_eq_false_iff_not]; omega

theorem test_wf_refuses_long_command_frame :
    WellFormed (.frameCommand (List.replicate (2 ^ 32 - 4) 0)) = false := by
  simp only [WellFormed, Instr.countFits, List.length_replicate, decide_eq_false_iff_not]; omega

theorem test_wf_refuses_long_telemetry_frame :
    WellFormed (.frameTelemetry (List.replicate (2 ^ 32 - 4) 0)) = false := by
  simp only [WellFormed, Instr.countFits, List.length_replicate, decide_eq_false_iff_not]; omega

theorem test_wf_accepts_boundaries :
    WellFormed (.srPosition 0xFFFFFFFF 2) = true ∧ WellFormed (.srOrientation 0 3) = true
    ∧ WellFormed (.txBuild 0 0 0 0 0 (some [])) = true ∧ WellFormed (.rxLoad []) = true
    ∧ WellFormed (.frameCommand []) = true := by decide

/-! ### Decoding: every constructor from a word written out from R80 to R82 and R61 -/

theorem test_decode_checksum_family :
    decodeTableWord 32 0x00000001 = some .crcClear
    ∧ decodeTableWord 32 0x0000A502 = some (.crcByte 0xA5)
    ∧ decodeTableWord 32 0x00000003 = some .crcRead := by decide +kernel

theorem test_decode_transmit_family :
    decodeTableWord 32 0x00000010 = some (.txBuild 0 0 0 0 0 none)
    ∧ decodeTableWord 32 0x00000110 = some (.txBuild 0 0 0 0 0 (some []))
    ∧ decodeTableWord 32 0x00000011 = some .txSerialize
    ∧ decodeTableWord 32 0x00000012 = some .txLength
    ∧ decodeRequest ⟨0x00000110, [0x12345678, 32, 0, 1, 2, 8], [0, 1, 2, 3, 4, 5, 6, 7]⟩
      = some (.txBuild 0x12345678 32 0 1 2 (some [0, 1, 2, 3, 4, 5, 6, 7])) := by decide +kernel

theorem test_decode_receive_family :
    decodeTableWord 32 0x00000020 = some (.rxLoad [])
    ∧ decodeRequest ⟨0x00000020, [4], [0x56, 0x50, 0x52, 0x50]⟩
      = some (.rxLoad [0x56, 0x50, 0x52, 0x50])
    ∧ decodeTableWord 32 0x00000021 = some .rxRelease
    ∧ decodeTableWord 32 0x00000022 = some .rxClassify
    ∧ decodeTableWord 32 0x00000023 = some .rxSize
    ∧ decodeTableWord 32 0x00000024 = some .rxComplete
    ∧ decodeTableWord 32 0x00000025 = some .rxVerify := by decide +kernel

theorem test_decode_command_family :
    decodeTableWord 32 0x00000030 = some .cmdCommand
    ∧ decodeTableWord 32 0x00000031 = some .cmdAction
    ∧ decodeTableWord 32 0x00000032 = some .cmdDeviceId
    ∧ decodeTableWord 32 0x00000033 = some .cmdIsAck
    ∧ decodeTableWord 32 0x00000034 = some .cmdIsNak
    ∧ decodeTableWord 32 0x00000035 = some .cmdPayload := by decide +kernel

theorem test_decode_telemetry_family :
    decodeTableWord 32 0x00000040 = some .tlmDeviceId
    ∧ decodeTableWord 32 0x00000041 = some .tlmFrameCounter
    ∧ decodeTableWord 32 0x00000042 = some .tlmSensorCount
    ∧ decodeTableWord 32 0x00000043 = some .tlmPayload
    ∧ decodeTableWord 64 0x8000000100000044 = some (.tlmSensorRecord 0x80000001) := by decide +kernel

theorem test_decode_record_family :
    decodeTableWord 64 0x0000000700000050 = some (.srInfo 7)
    ∧ decodeTableWord 32 0x00000051 = some (.srSensorNumber 0)
    ∧ decodeTableWord 32 0x00000052 = some (.srIsVirtual 0)
    ∧ decodeTableWord 32 0x00000053 = some (.srPositionUnits 0)
    ∧ decodeTableWord 32 0x00000054 = some (.srOrientationUnits 0)
    ∧ decodeTableWord 32 0x00000055 = some (.srButton0 0)
    ∧ decodeTableWord 32 0x00000056 = some (.srButton1 0)
    ∧ decodeTableWord 32 0x00000057 = some (.srDistortionLevel 0)
    ∧ decodeTableWord 32 0x00000058 = some (.srAuxInput 0)
    ∧ decodeTableWord 64 0x0000000100000259 = some (.srPosition 1 2)
    ∧ decodeTableWord 64 0xFFFFFFFF0000035A = some (.srOrientation 0xFFFFFFFF 3) := by decide +kernel

theorem test_decode_wire_frames :
    decodeTableWord 32 0x42525056 = some (.frameCommand [])
    ∧ decodeTableWord 32 0x50525056 = some (.frameTelemetry [])
    ∧ decodeFrame TX1 = some (.frameCommand (TX1.drop 4))
    ∧ decodeFrame [0x42, 0x52, 0x50, 0x56] = some (.rxLoad [0x42, 0x52, 0x50, 0x56]) := by
  decide +kernel

/-- DE1 to DE6, TX-E7 to TX-E9, TA12, TA13. -/
theorem test_decode_refuses :
    decodeRequest ⟨0x00010001, [], []⟩ = none ∧ decodeRequest ⟨0x00000000, [], []⟩ = none
    ∧ decodeRequest ⟨0x000000FF, [], []⟩ = none ∧ decodeRequest ⟨0x00000101, [], []⟩ = none
    ∧ decodeRequest ⟨0x00000044, [], []⟩ = none ∧ decodeRequest ⟨0x00000003, [0], []⟩ = none
    ∧ decodeRequest ⟨0x00000010, [0, 7, 1, 0], []⟩ = none
    ∧ decodeRequest ⟨0x00000210, [0, 0, 0, 0, 0], []⟩ = none
    ∧ decodeRequest ⟨0x00000110, [1, 7, 0, 0, 0, 3], [0xAA, 0xBB]⟩ = none
    ∧ decodeRequest ⟨0x00000359, [0], []⟩ = none ∧ decodeRequest ⟨0x0000045A, [0], []⟩ = none := by
  decide +kernel

/-- Every row's mnemonic is the table's. -/
theorem test_rows_name_their_operations :
    requestRows.map RequestRow.mnemonic = OpCode.all.map OpCode.mnemonic := by decide +kernel

/-! ### Checksum generator (2.1) -/

/-- CK1 to CK6. -/
theorem test_checksum_single_bytes :
    [[0x02], [0x03], [0x0F], [0x10], [0x40], [0x55]].map checksum
      = [0xC181, 0x0140, 0x0440, 0xCC01, 0xF001, 0x3FC0] := by decide +kernel

/-- CK12, CK15, CK16, CK17. -/
theorem test_checksum_sequences :
    checksum [0x01, 0x01] = 0x50C0 ∧ checksum [0x01, 0xC1, 0xC0] = 0x0000
    ∧ checksum [0x31, 0x32, 0x33, 0x34, 0x35, 0x36, 0x37, 0x38, 0x39] = 0xBB3D
    ∧ checksum [0x56, 0x50, 0x52, 0x42, 0x04, 0x00, 0x00, 0x00] = 0x9EA1 := by decide +kernel

/-- CRC_CLEAR on `crc = 0xC0C1`. -/
theorem test_crc_clear :
    (stateOf (exec .crcClear { State.reset with crc := 0xC0C1 })).crc = 0 := by decide +kernel

/-- CK-H: the accumulator carries over. -/
theorem test_crc_byte_carries_over :
    (stateOf (exec (.crcByte 0x01) { State.reset with crc := 0xC0C1 })).crc = 0x50C0 := by
  decide +kernel

/-- Program P1 step 3. -/
theorem test_crc_read :
    gives (runInstrs [.crcClear, .crcByte 0x01, .crcRead] State.reset) ⟨.ok, 0xC0C1, 0, 0⟩ := by
  unfold gives; decide +kernel

/-! ### Transmit marshaler (2.2) -/

/-- TX2: the response is `size`. -/
theorem test_tx_build_size :
    gives (exec (.txBuild 1 7 0 0 0 (some [0xAA, 0xBB, 0xCC])) State.reset) ⟨.ok, 27, 0, 0⟩ := by
  unfold gives; decide +kernel

/-- TX-E5, TX-E6: only a Set payload is checked against the capacity. -/
theorem test_tx_build_capacity :
    gives (exec (.txBuild 0 7 0 0 0 (some [1, 2, 3, 4, 5])) (State.resetWith ⟨16, some 4⟩))
      ⟨.capacityExceeded, 0, 0, 0⟩
    ∧ gives (exec (.txBuild 0 7 1 0 0 (some [1, 2, 3, 4, 5])) (State.resetWith ⟨16, some 4⟩))
      ⟨.ok, 24, 0, 0⟩ := by unfold gives; decide +kernel

/-- TX1, TX2: the bytes. -/
theorem test_tx_serialize_bytes :
    Memory.readBytes (ran ⟨64, none⟩ [.txBuild 7 10 1 0 0 none, .txSerialize]).txBuf 0 32 = TX1
    ∧ Memory.readBytes (ran ⟨64, none⟩
        [.txBuild 1 7 0 0 0 (some [0xAA, 0xBB, 0xCC]), .txSerialize]).txBuf 0 35 = TX2 := by
  decide +kernel

/-- TX5: the second argument and the action are in their places. -/
theorem test_tx_serialize_arguments :
    Memory.readBytes (ran ⟨64, none⟩
      [.txBuild 0 0 4 0x11223344 0xAABBCCDD none, .txSerialize]).txBuf 0 32 = TX5 := by decide +kernel

/-- TX-E4, P2 step 4. -/
theorem test_tx_length :
    gives (exec .txLength (ran ⟨64, none⟩ [.txBuild 7 10 1 0 0 none, .txSerialize])) ⟨.ok, 32, 0, 0⟩
    ∧ gives (exec .txLength (ran ⟨64, none⟩
        [.txBuild 7 10 1 0 0 none, .txSerialize, .txBuild 7 10 1 0 0 none])) ⟨.ok, 0, 0, 0⟩ := by
  unfold gives; decide +kernel

/-! ### Discriminator and frame operations (2.3) -/

/-- RX1 to RX4, RX8. -/
theorem test_rx_load_classes :
    gives (exec (.rxLoad []) State.reset) ⟨.ok, 0, 0, 0⟩
    ∧ gives (exec (.rxLoad [0x56, 0x50, 0x52]) State.reset) ⟨.ok, 3, 0, 0⟩
    ∧ gives (exec (.rxLoad [0x56, 0x50, 0x52, 0x42]) State.reset) ⟨.ok, 1, 0, 0⟩
    ∧ gives (exec (.rxLoad [0x56, 0x50, 0x52, 0x50]) State.reset) ⟨.ok, 2, 0, 0⟩
    ∧ gives (exec (.rxLoad [0x42, 0x52, 0x50, 0x56, 0, 0, 0, 0]) State.reset) ⟨.ok, 3, 0, 0⟩ := by
  unfold gives; decide +kernel

/-- DE7. -/
theorem test_rx_load_capacity :
    gives (exec (.rxLoad [0, 0]) (ran ⟨1, none⟩ [.rxLoad [0x56]])) ⟨.capacityExceeded, 0, 0, 0⟩
    ∧ (stateOf (exec (.rxLoad [0, 0]) (ran ⟨1, none⟩ [.rxLoad [0x56]]))).rxPresent = false := by
  unfold gives; decide +kernel

/-- RX-C2. -/
theorem test_rx_release :
    gives (runInstrs [.rxLoad [0x56, 0x50, 0x52, 0x42], .rxRelease, .rxClassify] State.reset)
      ⟨.ok, 0, 0, 0⟩ := by unfold gives; decide +kernel

theorem test_rx_classify : gives (exec .rxClassify (holding TX1)) ⟨.ok, 1, 0, 0⟩ := by
  unfold gives; decide +kernel

/-- RX5, RX3. -/
theorem test_rx_size :
    gives (exec .rxSize (holding TX1)) ⟨.ok, 24, 0, 0⟩
    ∧ gives (exec .rxSize (holding (TX1.take 4))) ⟨.naTruncated, 0, 0, 0⟩ := by
  unfold gives; decide +kernel

/-- RX5, RX6. -/
theorem test_rx_complete :
    gives (exec .rxComplete (holding TX1)) ⟨.ok, 1, 0, 0⟩
    ∧ gives (exec .rxComplete (holding (TX1.take 31))) ⟨.ok, 0, 0, 0⟩ := by
  unfold gives; decide +kernel

/-- RX7, RX9, RX10. -/
theorem test_rx_verify :
    gives (exec .rxVerify (holding (TX1 ++ [0xEE, 0xEE]))) ⟨.ok, 1, 0, 0⟩
    ∧ gives (exec .rxVerify (holding (TX1.set 8 0x06))) ⟨.checksumMismatch, 0, 0, 0⟩
    ∧ gives (exec .rxVerify (holding (TX1.set 30 0x01))) ⟨.checksumMismatch, 0, 0, 0⟩ := by
  unfold gives; decide +kernel

/-- RX11, RX12, RX13. -/
theorem test_rx_verify_edges :
    gives (exec .rxVerify (holding [0x56, 0x50, 0x52, 0x42, 4, 0, 0, 0, 0xA1, 0x9E, 0, 0]))
      ⟨.ok, 1, 0, 0⟩
    ∧ gives (exec .rxVerify (holding (T1.set 4 0x02))) ⟨.naTruncated, 0, 0, 0⟩
    ∧ gives (exec .rxVerify (holding T1)) ⟨.ok, 1, 0, 0⟩ := by unfold gives; decide +kernel

/-! ### Command accessors (2.4) -/

/-- CA1. -/
theorem test_cmd_command : gives (exec .cmdCommand (holding TX1)) ⟨.ok, 10, 0, 0⟩ := by
  unfold gives; decide +kernel

/-- CA2. -/
theorem test_cmd_action : gives (exec .cmdAction (holding TX1)) ⟨.ok, 1, 0, 0⟩ := by
  unfold gives; decide +kernel

/-- CA3, CA18. -/
theorem test_cmd_device_id :
    gives (exec .cmdDeviceId (holding TX1)) ⟨.ok, 7, 0, 0⟩
    ∧ gives (exec .cmdDeviceId (holding T1)) ⟨.naFamily, 0, 0, 0⟩ := by unfold gives; decide +kernel

/-- CA7, CA8. -/
theorem test_cmd_is_ack :
    gives (exec .cmdIsAck (holding TX4)) ⟨.ok, 1, 0, 0⟩
    ∧ gives (exec .cmdIsAck (holding TX5)) ⟨.ok, 0, 0, 0⟩ := by unfold gives; decide +kernel

/-- CA7, CA8. -/
theorem test_cmd_is_nak :
    gives (exec .cmdIsNak (holding TX4)) ⟨.ok, 0, 0, 0⟩
    ∧ gives (exec .cmdIsNak (holding TX5)) ⟨.ok, 1, 0, 0⟩ := by unfold gives; decide +kernel

/-- CA6, CA12, CA16. -/
theorem test_cmd_payload :
    gives (exec .cmdPayload (holding TX2)) ⟨.ok, 3, 28, 3⟩
    ∧ gives (exec .cmdPayload (holding [0x56, 0x50, 0x52, 0x42, 4, 0, 0, 0, 0xA1, 0x9E, 0, 0]))
      ⟨.ok, 0, 28, 0⟩
    ∧ gives (exec .cmdPayload (holding (TX2.take 30))) ⟨.naTruncated, 0, 0, 0⟩ := by
  unfold gives; decide +kernel

/-! ### Telemetry accessors and the sensor-record view (2.5) -/

/-- TA1, TA29. -/
theorem test_tlm_device_id :
    gives (exec .tlmDeviceId (holding T1)) ⟨.ok, 1, 0, 0⟩
    ∧ gives (exec .tlmDeviceId (holding TX1)) ⟨.naFamily, 0, 0, 0⟩ := by unfold gives; decide +kernel

/-- TA2, TA16. -/
theorem test_tlm_frame_counter :
    gives (exec .tlmFrameCounter (holding T1)) ⟨.ok, 0x10, 0, 0⟩
    ∧ gives (exec .tlmFrameCounter (holding T2)) ⟨.ok, 0xFFFFFFFF, 0, 0⟩ := by
  unfold gives; decide +kernel

/-- TA3, TA23. -/
theorem test_tlm_sensor_count :
    gives (exec .tlmSensorCount (holding T1)) ⟨.ok, 1, 0, 0⟩
    ∧ gives (exec .tlmSensorCount (holding (T1.take 4))) ⟨.naTruncated, 0, 0, 0⟩ := by
  unfold gives; decide +kernel

/-- TA4, TA28. -/
theorem test_tlm_payload :
    gives (exec .tlmPayload (holding T1)) ⟨.ok, 48, 8, 48⟩
    ∧ gives (exec .tlmPayload (holding (T1.set 4 0x02))) ⟨.ok, 0, 8, 0⟩ := by
  unfold gives; decide +kernel

/-- TA17, TA27. -/
theorem test_tlm_sensor_record :
    gives (exec (.tlmSensorRecord 1) (holding T2)) ⟨.ok, 56, 56, 32⟩
    ∧ gives (exec (.tlmSensorRecord 2) (holding T2)) ⟨.indexOutOfRange, 0, 0, 0⟩
    ∧ gives (exec (.tlmSensorRecord 1) (holding (T1.set 20 0x05))) ⟨.indexOutOfRange, 0, 0, 0⟩ := by
  unfold gives; decide +kernel

/-- TA7 to TA9, TA19. -/
theorem test_sr_info :
    gives (exec (.srInfo 0) (holding T1)) ⟨.ok, 0xFFC15A03, 0, 0⟩
    ∧ gives (exec (.srInfo 1) (holding T2)) ⟨.ok, 0x003FE781, 0, 0⟩ := by unfold gives; decide +kernel

/-- TA7 to TA9, TA19. -/
theorem test_sr_sensor_number :
    gives (exec (.srSensorNumber 0) (holding T1)) ⟨.ok, 3, 0, 0⟩
    ∧ gives (exec (.srSensorNumber 1) (holding T2)) ⟨.ok, 1, 0, 0⟩ := by unfold gives; decide +kernel

/-- TA7 to TA9, TA19. -/
theorem test_sr_is_virtual :
    gives (exec (.srIsVirtual 0) (holding T1)) ⟨.ok, 0, 0, 0⟩
    ∧ gives (exec (.srIsVirtual 1) (holding T2)) ⟨.ok, 1, 0, 0⟩ := by unfold gives; decide +kernel

/-- TA7 to TA9, TA19. -/
theorem test_sr_position_units :
    gives (exec (.srPositionUnits 0) (holding T1)) ⟨.ok, 2, 0, 0⟩
    ∧ gives (exec (.srPositionUnits 1) (holding T2)) ⟨.ok, 3, 0, 0⟩ := by unfold gives; decide +kernel

/-- TA7 to TA9, TA19. -/
theorem test_sr_orientation_units :
    gives (exec (.srOrientationUnits 0) (holding T1)) ⟨.ok, 2, 0, 0⟩
    ∧ gives (exec (.srOrientationUnits 1) (holding T2)) ⟨.ok, 1, 0, 0⟩ := by unfold gives; decide +kernel

/-- TA7 to TA9, TA19. -/
theorem test_sr_button0 :
    gives (exec (.srButton0 0) (holding T1)) ⟨.ok, 1, 0, 0⟩
    ∧ gives (exec (.srButton0 1) (holding T2)) ⟨.ok, 0, 0, 0⟩ := by unfold gives; decide +kernel

/-- TA7 to TA9, TA19. -/
theorem test_sr_button1 :
    gives (exec (.srButton1 0) (holding T1)) ⟨.ok, 0, 0, 0⟩
    ∧ gives (exec (.srButton1 1) (holding T2)) ⟨.ok, 1, 0, 0⟩ := by unfold gives; decide +kernel

/-- TA7 to TA9, TA19. -/
theorem test_sr_distortion_level :
    gives (exec (.srDistortionLevel 0) (holding T1)) ⟨.ok, 5, 0, 0⟩
    ∧ gives (exec (.srDistortionLevel 1) (holding T2)) ⟨.ok, 0xFF, 0, 0⟩ := by unfold gives; decide +kernel

/-- TA7 to TA9, TA19. -/
theorem test_sr_aux_input :
    gives (exec (.srAuxInput 0) (holding T1)) ⟨.ok, 0x3FF, 0, 0⟩
    ∧ gives (exec (.srAuxInput 1) (holding T2)) ⟨.ok, 0, 0, 0⟩ := by unfold gives; decide +kernel

/-- TA10, TA20. -/
theorem test_sr_position :
    gives (exec (.srPosition 0 2) (holding T1)) ⟨.ok, 0xC0600000, 0, 0⟩
    ∧ gives (exec (.srPosition 1 0) (holding T2)) ⟨.ok, 0x7FC00000, 0, 0⟩
    ∧ gives (exec (.srPosition 1 1) (holding T2)) ⟨.ok, 0x80000000, 0, 0⟩ := by
  unfold gives; decide +kernel

/-- TA11, TA21. -/
theorem test_sr_orientation :
    gives (exec (.srOrientation 0 0) (holding T1)) ⟨.ok, 0x3F800000, 0, 0⟩
    ∧ gives (exec (.srOrientation 1 3) (holding T2)) ⟨.ok, 0xBF000000, 0, 0⟩ := by
  unfold gives; decide +kernel

/-- TA30: decoding comes before the class. -/
theorem test_decoding_comes_first :
    asked State.reset ⟨0x00000059, [0], []⟩ = some (.response ⟨.naEmpty, 0, 0, 0⟩)
    ∧ asked State.reset ⟨0x00000359, [0], []⟩ = some (.response ⟨.badOperation, 0, 0, 0⟩) := by
  decide +kernel

/-! ### Wire frames, reset and the host's reads -/

theorem test_frame_rows :
    gives (exec (.frameCommand (TX1.drop 4)) State.reset) ⟨.ok, 1, 0, 0⟩
    ∧ gives (exec (.frameTelemetry (T1.drop 4)) State.reset) ⟨.ok, 2, 0, 0⟩
    ∧ (stateOf (exec (.frameTelemetry (T1.drop 4)) State.reset)).rxBuf = (holding T1).rxBuf := by
  unfold gives; decide +kernel

/-- R196 and R187: P3's payload slice reads as `AA BB CC`, until the next load. -/
theorem test_host_reads_slice :
    lastOf (step { ran ⟨64, none⟩ [.rxLoad TX2, .cmdPayload] with inputs := [.readRx 28 3] })
      = some (.bytes [0xAA, 0xBB, 0xCC])
    ∧ refusalOf (step { ran ⟨64, none⟩ [.rxLoad TX2, .cmdPayload, .rxLoad TX2] with
        inputs := [.readRx 28 3] }) = some .rxReadOutsideSlice
    ∧ faultOf (step { State.reset with inputs := [.readRx 63 2] }) = some .rxOffsetDoesNotExist := by
  decide +kernel

/-- R32, R187, R40: the host reads TX up to `tx_len`, and no further. -/
theorem test_host_reads_frame :
    lastOf (step { ran ⟨64, some 0⟩ [.txBuild 7 10 1 0 0 none, .txSerialize] with
      inputs := [.readTx 28 4] }) = some (.bytes [0xB4, 0xE5, 0, 0])
    ∧ refusalOf (step { ran ⟨64, some 0⟩ [.txBuild 7 10 1 0 0 none] with inputs := [.readTx 0 1] })
      = some .txReadBeyondLength
    ∧ faultOf (step { ran ⟨64, some 0⟩ [.txBuild 7 10 1 0 0 none, .txSerialize] with
        inputs := [.readTx 29 4] }) = some .txOffsetDoesNotExist := by decide +kernel

/-- P6 step 2 from a fresh block, through `withFetchWord`: the first step runs the placed word. -/
theorem test_fetch_word_runs_first :
    lastOf (step (State.reset.withFetchWord 32 0x00000022)) = some (.response ⟨.ok, 0, 0, 0⟩)
    ∧ lastOf (step (State.reset.withFetchWord 32 0x00000000))
      = some (.response ⟨.badOperation, 0, 0, 0⟩)
    ∧ lastOf (step (State.reset.withFetchWord 32 0x50525056))
      = some (.response ⟨.ok, 2, 0, 0⟩) := by decide +kernel

/-- The codes of R170 and R83, and the predicate of R171. -/
theorem test_codes :
    [Status.ok, .naEmpty, .naUnknown, .naFamily, .naTruncated, .indexOutOfRange, .checksumMismatch,
      .capacityExceeded, .badOperation].map Status.code = [0, 1, 2, 3, 4, 5, 6, 7, 8]
    ∧ [FrameClass.empty, .command, .telemetry, .unknown].map FrameClass.code = [0, 1, 2, 3]
    ∧ Status.notApplicable .naFamily = true ∧ Status.notApplicable .checksumMismatch = false := by
  decide +kernel

/-! ### Assembler (R86, R87) -/

/-- P2 step 1, P3 step 1 as SEND, TA10's third operation. -/
theorem test_assemble_program :
    assembleText ("TX_BUILD 7, StationMap, Get, 0, 0\nSEND 1, Units, Set, 0, 0, [AA BB CC]\n"
        ++ "SR_POSITION 0, 2").toList
      = some [.txBuild 7 10 1 0 0 none, .txBuild 1 7 0 0 0 (some [0xAA, 0xBB, 0xCC]), .txSerialize,
        .srPosition 0 2] := by decide +kernel

/-- Omitted arguments, an empty payload, hex numbers, the byte list, and what is no line. -/
theorem test_assemble_lines :
    parseLine "TX_BUILD 0x12, 40, 9, []".toList
      = some (.txBuild 0x12 (.number 40) (.number 9) none none (some []))
    ∧ parseLine "RX_LOAD [56 50 52 50]".toList = some (.op (.rxLoad [0x56, 0x50, 0x52, 0x50]))
    ∧ (parseLine "CHECKSUM [01]".toList).map assemble = some [.crcClear, .crcByte 1, .crcRead]
    ∧ (parseLine "RX_EMPTY".toList).map assemble = some [.rxLoad []]
    ∧ parseLine "SR_POSITION 0, 3".toList = none ∧ parseLine "CRC_BYTE 256".toList = none := by
  decide +kernel

/-- R68 and R69: the codes are the ordinals, and every name reads as its code. -/
theorem test_code_tables :
    CommandCode.all.map CommandCode.code = (List.range 33).map (BitVec.ofNat 32)
    ∧ ActionCode.all.map ActionCode.code = (List.range 5).map (BitVec.ofNat 32)
    ∧ CommandCode.all.all (fun c => decide (commandText (CommandCode.text c).toList
        = some (.name c))) = true := by decide +kernel

/-! ### Witnesses: for each obligation, a state and operands that meet all its hypotheses -/

/-- Every operation answers, so the state it leads to is a next state. -/
theorem exec_next (i : Instr) (s : State) : exec i s = .next (stateOf (exec i s)) := by
  obtain ⟨t, r, h, -⟩ := exec_answers i s
  rw [h]; rfl

/-- A block with a serialised Set frame, a telemetry frame and a slice of it held. -/
def busy : State :=
  ran ⟨64, some 8⟩
    [.txBuild 1 7 0 0 0 (some [0xAA, 0xBB, 0xCC]), .txSerialize, .rxLoad T1, .tlmPayload]

/-- `busy` with inputs pending. -/
def busyWith (ins : List Input) : State := { busy with inputs := ins }

theorem busy_inv : BlockInv busy where
  rxCanonical := by decide +kernel
  rxInSpace := by decide +kernel
  rxLenFits := by decide +kernel
  rxLenWord := by decide +kernel
  rxClassLatched := by decide +kernel
  rxAbsent := by decide +kernel
  txCanonical := by decide +kernel
  txInSpace := by
    intro c h
    have h' : txCapacity busy.cfg = some 40 := by decide +kernel
    rw [h'] at h; cases h; decide +kernel
  txIdle := by decide +kernel
  txSizeHeld := by decide +kernel
  txPayloadFits := by
    intro _ n h
    have h' : busy.cfg.txMaxPayload = some 8 := by decide +kernel
    rw [h'] at h; cases h; decide +kernel
  txPayloadOnlySet := by decide +kernel
  txReadyLength := by decide +kernel
  txReadyBytes := by decide +kernel
  slicesValid := by decide +kernel

theorem busyWith_inv (ins : List Input) : BlockInv (busyWith ins) :=
  ⟨busy_inv.1, busy_inv.2, busy_inv.3, busy_inv.4, busy_inv.5, busy_inv.6, busy_inv.7, busy_inv.8,
    busy_inv.9, busy_inv.10, busy_inv.11, busy_inv.12, busy_inv.13, busy_inv.14, busy_inv.15⟩

/-- A block right after reset, but for bytes and frame registers that nothing has written. -/
def freshWithJunk : State :=
  { State.resetWith ⟨35, some 3⟩ with rxBuf := [(0, 0xFF)], txBuf := [(3, 0x11)], txDev := 9 }

theorem fresh_inv : BlockInv (State.resetWith ⟨35, some 3⟩) where
  rxCanonical := by decide
  rxInSpace := by decide
  rxLenFits := by decide
  rxLenWord := by decide
  rxClassLatched := by decide
  rxAbsent := by decide
  txCanonical := by decide
  txInSpace := fun _ _ => rfl
  txIdle := by decide
  txSizeHeld := by decide
  txPayloadFits := by intro h; cases h
  txPayloadOnlySet := by decide
  txReadyLength := by decide
  txReadyBytes := by decide
  slicesValid := by decide

theorem freshWithJunk_inv : BlockInv freshWithJunk where
  rxCanonical := by decide
  rxInSpace := by decide
  rxLenFits := by decide
  rxLenWord := by decide
  rxClassLatched := by decide
  rxAbsent := by decide
  txCanonical := by decide
  txInSpace := by
    intro c h
    have h' : txCapacity freshWithJunk.cfg = some 35 := by decide
    rw [h'] at h; cases h; decide
  txIdle := by decide
  txSizeHeld := by decide
  txPayloadFits := by intro h; cases h
  txPayloadOnlySet := by decide
  txReadyLength := by decide
  txReadyBytes := by decide
  slicesValid := by decide

theorem fresh_sameVisible : SameVisible (State.resetWith ⟨35, some 3⟩) freshWithJunk where
  cfg := rfl
  crc := rfl
  rxLen := rfl
  rxPresent := rfl
  rxClass := rfl
  rxBytes := fun _ h => absurd h (Nat.not_lt_zero _)
  txBuilt := rfl
  txFrame := by intro h; cases h
  txLen := rfl
  txBytes := fun _ h => absurd h (Nat.not_lt_zero _)
  inputs := rfl
  outputs := rfl
  slices := rfl

theorem test_witness_DecodeOfEncodeIsIdentity :
    WellFormed (.srPosition 0xFFFFFFFF 2) = true ∧ WellFormed (.txBuild 1 2 3 4 5 (some [])) = true
    ∧ WellFormed (.frameTelemetry []) = true := by decide

theorem test_witness_EncodeOfDecodeIsIdentity :
    decodeRequest ⟨0x0000035A, [0xFFFFFFFF], []⟩ = some (.srOrientation 0xFFFFFFFF 3) := by
  decide +kernel

theorem test_witness_DecoderMatchesOpcodeTable :
    decodeRequest ⟨0x00000259, [1], []⟩ = some (.srPosition 1 2)
    ∧ (⟨"SR_POSITION", 0x00000059, 0xFFFFFCFF, .ik⟩ : RequestRow) ∈ requestRows
    ∧ RequestRow.Spells ⟨"SR_POSITION", 0x00000059, 0xFFFFFCFF, .ik⟩ ⟨0x00000259, [1], []⟩ :=
  ⟨by decide +kernel, by decide +kernel, ⟨by decide, by decide, by decide, by decide⟩⟩

theorem test_witness_RowsOfTableAreDisjoint :
    (⟨"CRC_BYTE", 0x00000002, 0xFFFF00FF, .b⟩ : RequestRow) ∈ requestRows
    ∧ (0x0000FF02 : Word) &&& 0xFFFF00FF = 0x00000002 := by decide +kernel

theorem test_witness_StepRunsDecodedOperation :
    (busyWith [.request ⟨0x00000022, [], []⟩, .reset]).inputs
      = [.request ⟨0x00000022, [], []⟩, .reset]
    ∧ decodeInput (.request ⟨0x00000022, [], []⟩) = some .rxClassify := ⟨rfl, by decide +kernel⟩

/-- A reserved bit set; a component number one beyond the row's constraint; a block one byte short. -/
theorem test_witness_MalformedRequestChangesNothing :
    (∀ row ∈ requestRows, ¬ row.Spells ⟨0x00010001, [], []⟩)
    ∧ (∀ row ∈ requestRows, ¬ row.Spells ⟨0x00000359, [0], []⟩)
    ∧ (∀ row ∈ requestRows, ¬ row.Spells ⟨0x00000020, [3], [1, 2]⟩) := by
  have h1 : ∀ row ∈ requestRows, ¬ (0x00010001 : Word) &&& row.mask = row.pattern := by
    decide +kernel
  have h2 : ∀ row ∈ requestRows, (0x00000359 : Word) &&& row.mask = row.pattern →
      row.subBound < 3 := by decide +kernel
  have h3 : ∀ row ∈ requestRows, (0x00000020 : Word) &&& row.mask = row.pattern →
      row.format = .ld := by decide +kernel
  refine ⟨fun row hr hs => h1 row hr hs.word, fun row hr hs => ?_, fun row hr hs => ?_⟩
  · have h4 := hs.sub
    have h5 : ((0x00000359 : Word) >>> 8).toNat % 256 = 3 := by decide
    have h6 := h2 row hr hs.word
    simp only [h5] at h4; omega
  · have h4 := hs.bytes
    rw [h3 row hr hs.word] at h4
    exact absurd h4 (by decide)

theorem test_witness_EveryRequestIsAnsweredOnce :
    (busyWith [.request ⟨0x00000359, [0], []⟩]).inputs = [.request ⟨0x00000359, [0], []⟩] := rfl

theorem test_witness_NothingHappensWithoutInput : State.reset.inputs = [] := rfl

theorem test_witness_ParametersNeverChange :
    step (busyWith [.request ⟨0x00000010, [1, 2, 3, 4, 5], []⟩])
      = .next (stateOf (step (busyWith [.request ⟨0x00000010, [1, 2, 3, 4, 5], []⟩]))) := rfl

theorem test_witness_StepKeepsInvariant :
    BlockInv (busyWith [.request ⟨0x00000011, [], []⟩])
    ∧ step (busyWith [.request ⟨0x00000011, [], []⟩])
      = .next (stateOf (step (busyWith [.request ⟨0x00000011, [], []⟩]))) := by
  refine ⟨busyWith_inv _, ?_⟩
  rw [step_of_decode (i := .txSerialize) rfl (by decide +kernel)]
  exact exec_next _ _

theorem test_witness_UnwrittenElementsAreUnobservable :
    BlockInv (State.resetWith ⟨35, some 3⟩) ∧ BlockInv freshWithJunk
    ∧ SameVisible (State.resetWith ⟨35, some 3⟩) freshWithJunk
    ∧ State.resetWith ⟨35, some 3⟩ ≠ freshWithJunk :=
  ⟨fresh_inv, freshWithJunk_inv, fresh_sameVisible, by decide⟩

theorem test_witness_NonOkStatusCarriesZerosAndOnlyBuildOrLoadWrites :
    exec .cmdCommand busy = .next (answered busy (notOk .naFamily))
    ∧ (notOk .naFamily).status ≠ .ok ∧ loadedBytes .cmdCommand = none := by
  refine ⟨?_, by decide, rfl⟩
  have h : busy.rxClass = .telemetry := by decide +kernel
  simp [exec, execCmdCommand, commandField, requireCommand, h, finish, raise_eq]

theorem test_witness_ReadingOperationsWriteNothing :
    readsOnly .rxVerify = true ∧ readsOnly (.srPosition 0 2) = true := ⟨rfl, rfl⟩

theorem test_witness_ReadingOperationsAreIdempotent :
    readsOnly .tlmPayload = true ∧ exec .tlmPayload busy = .next (stateOf (exec .tlmPayload busy))
    ∧ (stateOf (exec .tlmPayload busy)).outputs
      = busy.outputs ++ [.response ⟨.ok, 48, 8, 48⟩] :=
  ⟨rfl, exec_next _ _, by decide +kernel⟩

theorem test_witness_SerializeTwiceGivesTheSameBytes :
    BlockInv busy ∧ exec .txSerialize busy = .next (stateOf (exec .txSerialize busy))
    ∧ (stateOf (exec .txSerialize busy)).outputs = busy.outputs ++ [.response ⟨.ok, 35, 0, 0⟩] :=
  ⟨busy_inv, exec_next _ _, by decide +kernel⟩

theorem test_witness_OnlyChecksumOperationsWriteCrc :
    crcOperation (.crcByte 1) = true ∧ crcOperation .rxRelease = false
    ∧ exec (.crcByte 1) busy = .next (stateOf (exec (.crcByte 1) busy))
    ∧ exec .rxRelease busy = .next (stateOf (exec .rxRelease busy)) :=
  ⟨rfl, rfl, exec_next _ _, exec_next _ _⟩

theorem test_witness_OnlyLoadAndReleaseChangeReceivedBytes :
    loadsOrReleases .txSerialize = false
    ∧ exec .txSerialize busy = .next (stateOf (exec .txSerialize busy)) := ⟨rfl, exec_next _ _⟩

theorem test_witness_OnlyBuildAndSerializeChangeTransmitState :
    exec .rxRelease busy = .next (stateOf (exec .rxRelease busy))
    ∧ exec .txSerialize busy = .next (stateOf (exec .txSerialize busy))
    ∧ (∀ dev cmd act a1 a2 p, Instr.txSerialize ≠ .txBuild dev cmd act a1 a2 p)
    ∧ Instr.rxRelease ≠ .txSerialize :=
  ⟨exec_next _ _, exec_next _ _, by intros; simp, by decide⟩

/-- A load of exactly the capacity, of one byte more, a release, and another operation. -/
theorem test_witness_FrameParserTransitions :
    BlockInv busy ∧ busy.cfg.rxBufBytes = 64
    ∧ loadedBytes (.rxLoad (List.replicate 64 0)) = some (List.replicate 64 0)
    ∧ (List.replicate 64 (0 : Byte)).length ≤ 64 ∧ 64 < (List.replicate 65 (0 : Byte)).length
    ∧ loadsOrReleases .crcRead = false
    ∧ exec (.rxLoad (List.replicate 65 0)) busy
      = .next (stateOf (exec (.rxLoad (List.replicate 65 0)) busy)) :=
  ⟨busy_inv, by decide +kernel, rfl, by decide, by decide, rfl, exec_next _ _⟩

/-- A payload of exactly `TX_MAX_PAYLOAD` bytes, and of one more. -/
theorem test_witness_TransmitSideTransitions :
    BlockInv busy ∧ PayloadFits ⟨64, some 8⟩ (keptPayload 0 (some (List.replicate 8 1))).length
    ∧ ¬ PayloadFits ⟨64, some 8⟩ (keptPayload 0 (some (List.replicate 9 1))).length
    ∧ busy.cfg = ⟨64, some 8⟩
    ∧ exec (.txBuild 0 0 0 0 0 (some (List.replicate 9 1))) busy
      = .next (stateOf (exec (.txBuild 0 0 0 0 0 (some (List.replicate 9 1))) busy))
    ∧ exec .rxRelease busy = .next (stateOf (exec .rxRelease busy)) :=
  ⟨busy_inv, ⟨by intro n h; cases h; decide, by decide⟩, fun h => absurd (h.1 8 rfl) (by decide),
    by decide +kernel, exec_next _ _, exec_next _ _⟩

theorem test_witness_SlicesLieInReceivedBytes :
    BlockInv busy ∧ exec (.tlmSensorRecord 0) busy = .next (stateOf (exec (.tlmSensorRecord 0) busy))
    ∧ (stateOf (exec (.tlmSensorRecord 0) busy)).outputs
      = busy.outputs ++ [.response ⟨.ok, 24, 24, 32⟩] :=
  ⟨busy_inv, exec_next _ _, by decide +kernel⟩

theorem test_witness_ClassDecidesNotApplicable :
    WellFormed (.srPosition 0 2) = true ∧ readsFrame (.srPosition 0 2) = true
    ∧ (holding []).rxClass = .empty ∧ (holding [0x56]).rxClass = .unknown
    ∧ commandAccessor .cmdCommand = true ∧ (holding T1).rxClass = .telemetry
    ∧ telemetryAccessor (.srPosition 0 2) = true ∧ (holding TX1).rxClass = .command := by
  decide +kernel

/-- One byte less than each accessor needs. -/
theorem test_witness_HeaderBeyondBufferIsTruncated :
    headerEnd .cmdAction = some 20 ∧ (holding (TX1.take 19)).rxLen < 20
    ∧ (holding (TX1.take 19)).rxClass = .command ∧ telemetryAccessor .cmdAction = false
    ∧ headerEnd .tlmSensorCount = some 24 ∧ (holding (T1.take 23)).rxLen < 24
    ∧ (holding (T1.take 23)).rxClass = .telemetry ∧ commandAccessor .tlmSensorCount = false := by
  decide +kernel

/-- `sensor_count` cut off by one byte; an index equal to the count; a record cut off by one byte. -/
theorem test_witness_UnreadableRecordIsOutOfRange :
    WellFormed (.srInfo 0) = true ∧ recordIndex (.srInfo 0) = some 0
    ∧ (holding (T1.take 23)).rxClass = .telemetry ∧ (holding (T1.take 23)).rxLen < 24
    ∧ (holding T1).rxClass = .telemetry ∧ leNat (holding T1).rxBuf 20 ≤ (1 : Word).toNat
    ∧ (holding (T1.take 55)).rxClass = .telemetry
    ∧ (holding (T1.take 55)).rxLen < 24 + 32 * (0 : Word).toNat + 32 := by decide +kernel

theorem test_witness_InterleavedChecksumSequence :
    [Instr.txLength, .crcClear, .rxRelease, .crcByte 1, .txSerialize].filter crcOperation
      = .crcClear :: [(1 : Byte)].map .crcByte := by decide +kernel

/-- A payload of exactly `TX_MAX_PAYLOAD` bytes, of one more, and one that is dropped. -/
theorem test_witness_BuildLatchesOrDiscardsFrame :
    PayloadFits (State.resetWith ⟨64, some 8⟩).cfg
      (keptPayload 0 (some (List.replicate 8 1))).length
    ∧ ¬ PayloadFits (State.resetWith ⟨64, some 8⟩).cfg
      (keptPayload 0 (some (List.replicate 9 1))).length
    ∧ PayloadFits (State.resetWith ⟨64, some 8⟩).cfg
      (keptPayload 1 (some (List.replicate 9 1))).length :=
  ⟨⟨by intro n h; cases h; decide, by decide⟩, fun h => absurd (h.1 8 rfl) (by decide),
    ⟨by intro n h; cases h; decide, by decide⟩⟩

theorem test_witness_SerializeWritesFrameLayout :
    BlockInv busy ∧ busy.txBuilt = true ∧ 8 + busy.txSize.toNat < 2 ^ 32 :=
  ⟨busy_inv, by decide +kernel, by decide +kernel⟩

theorem test_witness_SerializeNeedsBuiltFrame : State.reset.txBuilt = false := rfl

theorem test_witness_LengthReportsValidBytes : busy.txLen < 2 ^ 32 := by decide +kernel

/-- A receive buffer of exactly the frame's length, a payload of exactly the largest. -/
theorem test_witness_MarshalledFrameReadsBack :
    BlockInv (State.resetWith ⟨35, some 3⟩)
    ∧ PayloadFits (State.resetWith ⟨35, some 3⟩).cfg (keptPayload 0 (some [1, 2, 3])).length
    ∧ 32 + (keptPayload 0 (some [1, 2, 3])).length ≤ (State.resetWith ⟨35, some 3⟩).cfg.rxBufBytes
    ∧ 32 + (keptPayload 0 (some [1, 2, 3])).length < 2 ^ 32 :=
  ⟨fresh_inv, ⟨by intro n h; cases h; decide, by decide⟩, by decide, by decide⟩

/-- A buffer of exactly the capacity, and of one byte more. -/
theorem test_witness_LoadStoresAndClassifies :
    Memory.wf busy.rxBuf = true ∧ (List.replicate 64 (7 : Byte)).length ≤ busy.cfg.rxBufBytes
    ∧ busy.cfg.rxBufBytes < (List.replicate 65 (7 : Byte)).length := by
  decide +kernel

theorem test_witness_ReleaseAndClassifyEffect :
    (holding []).rxClass = .empty ∧ (holding TX1).rxClass = .command
    ∧ (holding T1).rxClass = .telemetry ∧ (holding [0x56]).rxClass = .unknown := by decide +kernel

theorem test_witness_WireFrameRowsLoadTheirFamily :
    4 + (List.replicate 60 (7 : Byte)).length ≤ busy.cfg.rxBufBytes
    ∧ Memory.wf busy.rxBuf = true := by decide +kernel

theorem test_witness_DeliveredBufferIsRxLoad : T1.length < 2 ^ 32 := by decide +kernel

/-- Lengths 1, 3 and 4, the preambles, and two buffers that differ at the first byte beyond the
length only. -/
theorem test_witness_DiscriminatorIsTotalAndBounded :
    classify true [(0, 0x56)] 1 = .unknown ∧ classify true [(0, 0x56)] 3 = .unknown
    ∧ classify true [(0, 0x56), (1, 0x50), (2, 0x52), (3, 0x42)] 4 = .command
    ∧ classify true [(0, 0x56), (1, 0x50), (2, 0x52), (3, 0x50)] 4 = .telemetry
    ∧ classify true [] 4 = .unknown ∧ classify false [(0, 0x56)] 1 = .empty
    ∧ (∀ a, a < 1 → Memory.read [(0, 0x56), (1, 0x50)] a = Memory.read [(0, 0x56)] a)
    ∧ Memory.read [(0, 0x56), (1, 0x50)] 1 ≠ Memory.read [(0, 0x56)] 1 := by decide +kernel

/-- A FrameHeader and no more, in both families. -/
theorem test_witness_SizeAndCompleteResults :
    ((holding (TX1.take 8)).rxClass = .command ∧ 8 ≤ (holding (TX1.take 8)).rxLen)
    ∧ (holding (T1.take 8)).rxClass = .telemetry ∧ 8 ≤ (holding (T1.take 8)).rxLen := by
  decide +kernel

/-- A size of 3; a frame one byte short; a whole frame; a size of 4. -/
theorem test_witness_VerifyComparesTrailingChecksum :
    leNat (holding (T1.set 4 3)).rxBuf 4 < 4
    ∧ (holding (TX1.take 31)).rxLen < 8 + leNat (holding (TX1.take 31)).rxBuf 4
    ∧ 8 + leNat (holding TX1).rxBuf 4 ≤ (holding TX1).rxLen
    ∧ 4 ≤ leNat (holding (T1.set 4 4)).rxBuf 4
    ∧ 8 + leNat (holding (T1.set 4 4)).rxBuf 4 ≤ (holding (T1.set 4 4)).rxLen
    ∧ (holding TX1).rxClass = .command ∧ (holding (T1.set 4 3)).rxClass = .telemetry := by
  decide +kernel

/-- A buffer that ends with each field. -/
theorem test_witness_CommandHeaderFields :
    (holding (TX1.take 12)).rxClass = .command ∧ 12 ≤ (holding (TX1.take 12)).rxLen
    ∧ (holding (TX1.take 16)).rxClass = .command ∧ 16 ≤ (holding (TX1.take 16)).rxLen
    ∧ (holding (TX1.take 20)).rxClass = .command ∧ 20 ≤ (holding (TX1.take 20)).rxLen := by
  decide +kernel

theorem test_witness_AckAndNakTests :
    (holding (TX4.take 20)).rxClass = .command ∧ 20 ≤ (holding (TX4.take 20)).rxLen
    ∧ leNat (holding (TX4.take 20)).rxBuf 16 = 3 ∧ leNat (holding TX5).rxBuf 16 = 4 := by
  decide +kernel

/-- A size of 24; a payload cut off by one byte; a payload that ends with the buffer. -/
theorem test_witness_CommandPayloadSlice :
    ((holding (TX1.take 8)).rxClass = .command ∧ 8 ≤ (holding (TX1.take 8)).rxLen
      ∧ leNat (holding (TX1.take 8)).rxBuf 4 ≤ 24)
    ∧ ((holding (TX2.take 30)).rxClass = .command ∧ 24 < leNat (holding (TX2.take 30)).rxBuf 4
      ∧ (holding (TX2.take 30)).rxLen < 4 + leNat (holding (TX2.take 30)).rxBuf 4)
    ∧ ((holding (TX2.take 31)).rxClass = .command ∧ 24 < leNat (holding (TX2.take 31)).rxBuf 4
      ∧ 4 + leNat (holding (TX2.take 31)).rxBuf 4 ≤ (holding (TX2.take 31)).rxLen) := by
  decide +kernel

theorem test_witness_TelemetryHeaderFields :
    (holding (T1.take 12)).rxClass = .telemetry ∧ 12 ≤ (holding (T1.take 12)).rxLen
    ∧ (holding (T1.take 16)).rxClass = .telemetry ∧ 16 ≤ (holding (T1.take 16)).rxLen
    ∧ (holding (T1.take 24)).rxClass = .telemetry ∧ 24 ≤ (holding (T1.take 24)).rxLen := by
  decide +kernel

/-- A size of 4; a payload cut off by one byte; a payload that ends with the buffer. -/
theorem test_witness_TelemetryPayloadSlice :
    ((holding (T1.set 4 4)).rxClass = .telemetry ∧ 8 ≤ (holding (T1.set 4 4)).rxLen
      ∧ leNat (holding (T1.set 4 4)).rxBuf 4 ≤ 4)
    ∧ ((holding (T1.take 55)).rxClass = .telemetry ∧ 4 < leNat (holding (T1.take 55)).rxBuf 4
      ∧ (holding (T1.take 55)).rxLen < 4 + leNat (holding (T1.take 55)).rxBuf 4)
    ∧ ((holding (T1.take 56)).rxClass = .telemetry ∧ 4 < leNat (holding (T1.take 56)).rxBuf 4
      ∧ 4 + leNat (holding (T1.take 56)).rxBuf 4 ≤ (holding (T1.take 56)).rxLen) := by
  decide +kernel

/-- A record that ends with the buffer, and the last record of two. -/
theorem record_readable :
    RecordReadable (holding (T1.take 56)) 0 ∧ RecordReadable (holding T2) 1 :=
  ⟨⟨by decide +kernel, by decide +kernel, by decide +kernel, by decide +kernel⟩,
    ⟨by decide +kernel, by decide +kernel, by decide +kernel, by decide +kernel⟩⟩

theorem test_witness_SensorRecordSlice :
    RecordReadable (holding (T1.take 56)) 0 ∧ (holding (T1.take 56)).rxLen < 2 ^ 32 :=
  ⟨record_readable.1, by decide +kernel⟩

theorem test_witness_SensorInfoFields :
    RecordReadable (holding T2) 1
    ∧ (Instr.srAuxInput 1, 22, 10) ∈ [(Instr.srInfo 1, 0, 32), (.srAuxInput 1, 22, 10)] :=
  ⟨record_readable.2, by decide⟩

theorem test_witness_PoseComponents :
    RecordReadable (holding T2) 1 ∧ (2 : Byte).toNat ≤ 2 ∧ (3 : Byte).toNat ≤ 3
    ∧ 2 < (3 : Byte).toNat ∧ 3 < (4 : Byte).toNat :=
  ⟨record_readable.2, by decide, by decide, by decide, by decide⟩

theorem test_witness_ResetEventEffect : (busyWith [.reset]).inputs = [.reset] := rfl

theorem test_witness_AnswersRightAfterReset :
    SameVisible (State.resetWith ⟨35, some 3⟩) freshWithJunk
    ∧ WellFormed (.srPosition 0 2) = true ∧ readsFrame (.srPosition 0 2) = true :=
  ⟨fresh_sameVisible, rfl, rfl⟩

/-- The whole slice. -/
theorem test_witness_HeldSliceCanBeRead :
    BlockInv (busyWith [.readRx 8 48]) ∧ (⟨8, 48⟩ : Slice) ∈ (busyWith [.readRx 8 48]).slices
    ∧ (⟨8, 48⟩ : Slice).off ≤ 8 ∧ 8 + 48 ≤ (⟨8, 48⟩ : Slice).off + (⟨8, 48⟩ : Slice).len
    ∧ (busyWith [.readRx 8 48]).inputs = [.readRx 8 48] :=
  ⟨busyWith_inv _, by decide +kernel, by decide, by decide, rfl⟩

theorem test_witness_SlicesLastUntilLoadReleaseOrReset :
    loadsOrReleases .txSerialize = false ∧ loadsOrReleases .rxRelease = true
    ∧ (⟨8, 48⟩ : Slice) ∈ busy.slices
    ∧ exec .txSerialize busy = .next (stateOf (exec .txSerialize busy))
    ∧ exec .rxRelease busy = .next (stateOf (exec .rxRelease busy))
    ∧ (busyWith [.reset]).inputs = [.reset]
    ∧ step (busyWith [.reset]) = .next (resetEvent (busyWith [])) :=
  ⟨rfl, rfl, by decide +kernel, exec_next _ _, exec_next _ _, rfl, rfl⟩

/-- The valid bytes to the last, and one beyond. -/
theorem test_witness_HostReadsValidTransmitBytesOnly :
    BlockInv (busyWith [.readTx 0 35]) ∧ (busyWith [.readTx 0 35]).inputs = [.readTx 0 35]
    ∧ 0 + 35 ≤ (busyWith [.readTx 0 35]).txLen
    ∧ BlockInv (busyWith [.readTx 0 36]) ∧ (busyWith [.readTx 0 36]).txLen < 0 + 36 :=
  ⟨busyWith_inv _, rfl, by decide +kernel, busyWith_inv _, by decide +kernel⟩

theorem test_witness_LittleEndianWordAccess : Memory.wf [(0, 0x56), (3, 0x42)] = true := by decide

end Sys2Proof.Tests
end

section
/-! The decoder of R85 against the match and mask columns of R82. A row of the table is its
operation's mnemonic, `op` and format, once the two columns are cut into the fields of R80. -/

namespace Sys2Proof

open Sys2Proof.Safety Sys2Proof.Laws

/-! ### Words as fields (R80) -/

/-- The word with the fields `rsv`, `sub` and `op` (R80). -/
def fieldsWord (rsv : Half) (sub op : Byte) : Word := rsv ++ sub ++ op

theorem fieldsWord_and (rsv rsv' : Half) (sub sub' op op' : Byte) :
    fieldsWord rsv sub op &&& fieldsWord rsv' sub' op'
      = fieldsWord (rsv &&& rsv') (sub &&& sub') (op &&& op') :=
  BitVec.and_append.trans (congrArg (· ++ _) BitVec.and_append)

theorem append_inj_iff {m n : Nat} {a b : BitVec m} {c d : BitVec n} :
    a ++ c = b ++ d ↔ a = b ∧ c = d := by
  constructor
  · intro h
    have hhi := congrArg (BitVec.extractLsb' n m) h
    have hlo := congrArg (BitVec.extractLsb' 0 n) h
    simp only [BitVec.extractLsb'_append_eq_left, BitVec.extractLsb'_append_eq_right] at hhi hlo
    exact ⟨hhi, hlo⟩
  · rintro ⟨rfl, rfl⟩
    rfl

theorem fieldsWord_inj {rsv rsv' : Half} {sub sub' op op' : Byte} :
    fieldsWord rsv sub op = fieldsWord rsv' sub' op' ↔ rsv = rsv' ∧ sub = sub' ∧ op = op' :=
  append_inj_iff.trans (by rw [append_inj_iff, and_assoc])

/-- A request word is its three fields. -/
theorem Request.word_eq_fieldsWord (r : Request) : r.word = fieldsWord r.rsv r.sub r.op := by
  have hhi : r.rsv ++ r.sub = r.word.extractLsb' 8 24 :=
    BitVec.extractLsb'_append_extractLsb'_eq_extractLsb' rfl
  have hword : r.word.extractLsb' 8 24 ++ r.op = r.word := BitVec.extractLsb'_append_extractLsb'
  rw [fieldsWord, hhi, hword]

/-- `Spells` reads `sub` by a shift. -/
theorem Request.shiftRight_word (r : Request) : (r.word >>> 8).toNat % 256 = r.sub.toNat := by
  simp [Request.sub, BitVec.extractLsb'_toNat]

/-! ### The rows of the table -/

/-- The bits of `sub` that a format fixes at zero: the mask column of R82 over `word[15:8]`. -/
def Format.subMask : Format → Byte
  | .n => 0xFF
  | .b => 0x00
  | .i => 0xFF
  | .ik => 0xFC
  | .bld => 0xFE
  | .ld => 0xFF

/-- An operation's row of the table. -/
def OpCode.row (o : OpCode) : RequestRow where
  mnemonic := o.mnemonic
  pattern := fieldsWord 0 0 o.byte
  mask := fieldsWord 0xFFFF o.format.subMask 0xFF
  format := o.format

theorem requestRows_eq : requestRows = OpCode.all.map OpCode.row := by decide +kernel

theorem OpCode.mem_all (o : OpCode) : o ∈ OpCode.all := by cases o <;> decide

theorem mem_requestRows {row : RequestRow} : row ∈ requestRows ↔ ∃ o : OpCode, o.row = row := by
  simp [requestRows_eq, OpCode.mem_all]

theorem OpCode.mnemonic_instr (o : OpCode) (sub : Byte) (words : List Word) (block : List Byte) :
    (o.instr sub words block).mnemonic = o.mnemonic := by
  cases o <;> rfl

/-! ### What a row checks, field by field -/

/-- R85's checks of a request against a row of the map. -/
structure OpCode.Accepts (o : OpCode) (r : Request) : Prop where
  rsv : r.rsv = 0
  op : r.op = o.byte
  sub : o.subAdmitted r.sub = true
  operands : r.words.length = o.format.operandCount r.sub
  bytes : r.block.length = o.format.blockLength r.sub r.words

/-- The decoder gives exactly the operations of the rows that accept the request. -/
theorem decodeRequest_eq_some_iff {r : Request} {i : Instr} :
    decodeRequest r = some i ↔ ∃ o : OpCode, o.Accepts r ∧ o.instr r.sub r.words r.block = i := by
  constructor
  · intro h
    obtain ⟨o, hrsv, hop, hsub, hwords, hblock, rfl⟩ := decodeRequest_eq_some h
    exact ⟨o, ⟨hrsv, hop.symm, hsub, hwords, hblock⟩, rfl⟩
  · rintro ⟨o, ⟨hrsv, hop, hsub, hwords, hblock⟩, rfl⟩
    exact decodeRequest_of hrsv hop hsub hwords hblock

theorem OpCode.masked_word_iff (o : OpCode) (r : Request) :
    r.word &&& o.row.mask = o.row.pattern
      ↔ r.rsv = 0 ∧ r.sub &&& o.format.subMask = 0 ∧ r.op = o.byte := by
  have hrsv : r.rsv &&& 0xFFFF = r.rsv := BitVec.and_allOnes
  have hop : r.op &&& 0xFF = r.op := BitVec.and_allOnes
  rw [OpCode.row, r.word_eq_fieldsWord, fieldsWord_and, fieldsWord_inj, hrsv, hop]

/-- The largest `sub` a format's mask lets through. -/
def Format.subMax : Format → Nat
  | .n => 0
  | .b => 255
  | .i => 0
  | .ik => 3
  | .bld => 1
  | .ld => 0

theorem Format.and_subMask_iff (f : Format) (b : Byte) :
    b &&& f.subMask = 0 ↔ b.toNat ≤ f.subMax := by
  cases f <;> revert b <;> decide +kernel

/-- The decoder's test of `sub` is the mask's together with the row's bound. -/
theorem OpCode.subAdmitted_iff (o : OpCode) (b : Byte) :
    o.subAdmitted b = true ↔ b &&& o.format.subMask = 0 ∧ b.toNat ≤ o.row.subBound := by
  have hzero : b = 0 ↔ b.toNat = 0 := ⟨fun h => h ▸ rfl, fun h => BitVec.eq_of_toNat_eq h⟩
  have hbyte : b.toNat < 256 := b.isLt
  rw [Format.and_subMask_iff]
  cases o <;>
    simp only [subAdmitted, format, Format.subMax, row, mnemonic, RequestRow.subBound,
      decide_eq_true_eq, beq_iff_eq, hzero, true_iff, String.reduceEq, if_true, if_false] <;>
    omega

/-- The count of operand words of a format, read as `Spells` reads it. -/
def Format.countedWords (f : Format) (sub : Nat) : Nat :=
  match f with
  | .n => 0
  | .b => 0
  | .i => 1
  | .ik => 1
  | .ld => 1
  | .bld => 5 + sub

theorem Format.operandCount_eq_countedWords (f : Format) (sub : Byte) :
    f.operandCount sub = f.countedWords sub.toNat := by
  cases f <;> rfl

/-- The byte count a request's operand words give, read as `Spells` reads it. -/
def Format.countedBytes : Format → List Word → Nat
  | .bld, [_, _, _, _, _, plen] => plen.toNat
  | .ld, [count] => count.toNat
  | _, _ => 0

/-- With as many operand words as the format has, the byte count stands where the decoder looks. -/
theorem Format.blockLength_eq_countedBytes {f : Format} {sub : Byte} {words : List Word}
    (hmask : sub &&& f.subMask = 0) (hwords : words.length = f.operandCount sub) :
    f.blockLength sub words = f.countedBytes words := by
  cases f
  case bld =>
    have hsub : sub.toNat ≤ 1 := (and_subMask_iff .bld sub).1 hmask
    obtain rfl | rfl : sub = 0 ∨ sub = 1 := by bv_omega
    · match words, hwords with
      | [_, _, _, _, _], _ => rfl
    · match words, hwords with
      | [_, _, _, _, _, _], _ => rfl
  case ld =>
    obtain ⟨count, rfl⟩ := List.length_eq_one_iff.1 hwords
    rfl
  all_goals rfl

/-- `Spells` with the word cut into its fields and the two lengths named. -/
theorem OpCode.spells_row_iff_fields {o : OpCode} {r : Request} :
    o.row.Spells r ↔
      (r.rsv = 0 ∧ r.sub &&& o.format.subMask = 0 ∧ r.op = o.byte)
        ∧ r.sub.toNat ≤ o.row.subBound
        ∧ r.words.length = o.format.countedWords r.sub.toNat
        ∧ r.block.length = o.format.countedBytes r.words := by
  rw [← o.masked_word_iff r, ← r.shiftRight_word]
  exact ⟨fun ⟨hword, hsub, hoperands, hbytes⟩ => ⟨hword, hsub, hoperands, hbytes⟩,
    fun ⟨hword, hsub, hoperands, hbytes⟩ => ⟨hword, hsub, hoperands, hbytes⟩⟩

/-- An operation's row spells the requests that pass R85's checks for the operation. -/
theorem OpCode.spells_row_iff {o : OpCode} {r : Request} : o.row.Spells r ↔ o.Accepts r := by
  rw [spells_row_iff_fields, ← Format.operandCount_eq_countedWords]
  constructor
  · rintro ⟨⟨hrsv, hmask, hop⟩, hbound, hwords, hblock⟩
    have hsub := (o.subAdmitted_iff r.sub).2 ⟨hmask, hbound⟩
    rw [← Format.blockLength_eq_countedBytes hmask hwords] at hblock
    exact ⟨hrsv, hop, hsub, hwords, hblock⟩
  · rintro ⟨hrsv, hop, hsub, hwords, hblock⟩
    obtain ⟨hmask, hbound⟩ := (o.subAdmitted_iff r.sub).1 hsub
    rw [Format.blockLength_eq_countedBytes hmask hwords] at hblock
    exact ⟨⟨hrsv, hmask, hop⟩, hbound, hwords, hblock⟩

/-- Settles O4: the rows are the operations, and an operation's row spells the requests it accepts. -/
theorem decoderMatchesOpcodeTable : Obligations.DecoderMatchesOpcodeTable := by
  unfold Obligations.DecoderMatchesOpcodeTable
  intro r
  constructor
  · simp [Option.isSome_iff_exists, decodeRequest_eq_some_iff, mem_requestRows, OpCode.spells_row_iff]
  · intro i row hdecode hrow hspells
    obtain ⟨o, rfl⟩ := mem_requestRows.1 hrow
    have hrun := decodeRequest_eq_some_iff.2 ⟨o, OpCode.spells_row_iff.1 hspells, rfl⟩
    obtain rfl : o.instr r.sub r.words r.block = i := Option.some.inj (hrun.symm.trans hdecode)
    exact (o.mnemonic_instr _ _ _).symm

end Sys2Proof
end

section
/-! The checksum operations R102 to R104: what each does to any state. -/

namespace Sys2Proof

open Sys2Proof.Machine Sys2Proof.Safety Sys2Proof.Laws

/-- CRC_CLEAR (R102). -/
theorem exec_crcClear (s : State) :
    exec .crcClear s = .next (answered (s.setCrc 0) (okValue 0)) :=
  respondValue_eq (s.setCrc 0) 0

/-- CRC_BYTE (R103). -/
theorem exec_crcByte (b : Byte) (s : State) :
    exec (.crcByte b) s = .next (answered (s.setCrc (crcStep s.crc b)) (okValue 0)) :=
  respondValue_eq (s.setCrc (crcStep s.crc b)) 0

/-- CRC_READ (R104). -/
theorem exec_crcRead (s : State) :
    exec .crcRead s = .next (answered s (okValue (s.crc.setWidth 32))) :=
  respondValue_eq s (s.crc.setWidth 32)

/-- Answering leaves `crc` alone, so it does not matter which of the two updates comes first. -/
theorem answered_setCrc (s : State) (c : Half) (r : Response) :
    answered (s.setCrc c) r = { answered s r with crc := c } := rfl

/-- Settles O27: each operation by its own rule; zero extension keeps the accumulator's value. -/
theorem checksumOperationsEffect : Obligations.ChecksumOperationsEffect := by
  unfold Obligations.ChecksumOperationsEffect
  intro s b
  refine ⟨?clear, ?byte, ?read⟩
  case clear => rw [exec_crcClear, answered_setCrc]
  case byte => rw [exec_crcByte, answered_setCrc]
  case read =>
    have hzext : (s.crc.setWidth 32).toNat = s.crc.toNat :=
      BitVec.toNat_setWidth_of_le (by decide)
    exact ⟨s.crc.setWidth 32, hzext, exec_crcRead s⟩

end Sys2Proof
end

section
/-! TX_BUILD (R110): the frame that fits is latched, the frame that does not is discarded. -/

namespace Sys2Proof

open Sys2Proof.Machine Sys2Proof.Safety Sys2Proof.Laws

/-- A value within u32 survives its conversion to a word. -/
theorem u32_toNat {n : Nat} (h : n < 2 ^ 32) : (u32 n).toNat = n :=
  (BitVec.toNat_ofNat n 32).trans (Nat.mod_eq_of_lt h)

section build
variable (dev cmd act arg1 arg2 : Word) {payload : Option (List Byte)} {s : State}

/-- TX_BUILD of a payload that fits latches the frame and answers its size (R110). -/
theorem exec_txBuild_fits (h : PayloadFits s.cfg (keptPayload act payload).length) :
    exec (.txBuild dev cmd act arg1 arg2 payload) s =
      .next (answered (s.latchTx dev cmd act arg1 arg2 (u32 (24 + (keptPayload act payload).length))
        (keptPayload act payload)) (okValue (u32 (24 + (keptPayload act payload).length)))) := by
  rw [exec_txBuild, (payloadTooLong_iff _ _).2 h]
  rfl

/-- TX_BUILD of a payload that does not fit discards the frame held (R110, R177). -/
theorem exec_txBuild_oversized (h : ¬ PayloadFits s.cfg (keptPayload act payload).length) :
    exec (.txBuild dev cmd act arg1 arg2 payload) s =
      .next (answered s.discardTx (notOk .capacityExceeded)) := by
  rw [exec_txBuild, if_pos (by simpa [← payloadTooLong_iff] using h)]

end build

/-- Answering leaves the transmit side alone, so it does not matter which of the two updates comes
first. -/
theorem answered_latchTx (s : State) (dev cmd act arg1 arg2 size : Word) (pl : List Byte)
    (r : Response) :
    answered (s.latchTx dev cmd act arg1 arg2 size pl) r
      = (answered s r).latchTx dev cmd act arg1 arg2 size pl := rfl

theorem answered_discardTx (s : State) (r : Response) :
    answered s.discardTx r = (answered s r).discardTx := rfl

/-- Settles O31: by R110's test of the carried payload; `size` is exact because a payload that fits
keeps it within u32. -/
theorem buildLatchesOrDiscardsFrame : Obligations.BuildLatchesOrDiscardsFrame := by
  unfold Obligations.BuildLatchesOrDiscardsFrame
  intro s dev cmd act arg1 arg2 payload
  refine ⟨fun hfits => ?fits, fun hlong => ?oversized⟩
  case fits =>
    have hsize : 24 + (keptPayload act payload).length < 2 ^ 32 := by
      obtain ⟨-, hu32⟩ := hfits
      omega
    refine ⟨u32 (24 + (keptPayload act payload).length), u32_toNat hsize, ?_⟩
    rw [exec_txBuild_fits dev cmd act arg1 arg2 hfits, answered_latchTx, State.latchTx]
  case oversized =>
    rw [exec_txBuild_oversized dev cmd act arg1 arg2 hlong, answered_discardTx, State.discardTx]

end Sys2Proof
end

section
/-! The receive side: the discriminator (R121), case by case, and what RX_LOAD, RX_RELEASE and
RX_CLASSIFY do to any state (R120, R122, R123). -/

namespace Sys2Proof

open Sys2Proof.Machine Sys2Proof.Safety Sys2Proof.Laws

/-! ### The discriminator (R121) -/

theorem classify_absent_or_empty {present : Bool} (buf : Memory) {len : Nat}
    (h : present = false ∨ len = 0) : classify present buf len = .empty :=
  if_pos h

/-- A present buffer with a byte is past the discriminator's first test. -/
theorem held_not_empty {len : Nat} (hpos : 1 ≤ len) : ¬ (true = false ∨ len = 0) :=
  not_or.2 ⟨Bool.noConfusion, by omega⟩

theorem classify_short (buf : Memory) {len : Nat} (hpos : 1 ≤ len) (hshort : len ≤ 3) :
    classify true buf len = .unknown := by
  rw [classify, if_neg (held_not_empty hpos), if_pos (by omega)]

theorem readWord_eq_iff {m : Memory} {off : Nat} {w : Word} :
    Memory.readWord m off = w ↔ leNat m off = w.toNat := by
  rw [← readWord_toNat, BitVec.toNat_inj]

theorem classify_by_preamble (buf : Memory) {len : Nat} (hlen : 4 ≤ len) :
    classify true buf len
      = if leNat buf 0 = 0x42525056 then .command
        else if leNat buf 0 = 0x50525056 then .telemetry else .unknown := by
  rw [classify, if_neg (held_not_empty (by omega)), if_neg (by omega)]
  simp only [readWord_eq_iff, commandPreamble, telemetryPreamble, BitVec.reduceToNat]

/-- The discriminator reads no byte at or beyond the length: it reads four bytes of a buffer of four
or more, and none of a shorter one. -/
theorem classify_congr (present : Bool) {m m' : Memory} {len : Nat}
    (h : ∀ a, a < len → Memory.read m a = Memory.read m' a) :
    classify present m len = classify present m' len := by
  by_cases hlen : len < 4
  · simp only [classify, if_pos hlen]
  · have hword : Memory.readWord m 0 = Memory.readWord m' 0 :=
      readWord_congr fun i hi => h (0 + i) (by omega)
    simp only [classify, hword]

/-- Settles O40: a case per length that R121 tells apart, and the bytes below the length decide. -/
theorem discriminatorIsTotalAndBounded : Obligations.DiscriminatorIsTotalAndBounded := by
  unfold Obligations.DiscriminatorIsTotalAndBounded
  refine ⟨fun present buf len => ⟨?noBytes, ?short, ?preamble⟩, ?bounded⟩
  case noBytes => exact classify_absent_or_empty buf
  case short =>
    rintro rfl hpos hshort
    exact classify_short buf hpos hshort
  case preamble =>
    rintro rfl hlen
    exact classify_by_preamble buf hlen
  case bounded => exact fun present m m' len h => classify_congr present h

/-! ### RX_LOAD (R120) -/

/-- RX_LOAD of a buffer that fits holds it and answers the code of the class R28's table gives it. -/
theorem exec_rxLoad_fits {s : State} {bs : List Byte} (hwf : Memory.wf s.rxBuf = true)
    (hfits : bs.length ≤ s.cfg.rxBufBytes) :
    exec (.rxLoad bs) s
      = .next (answered (s.loadRx bs) (okValue (classOfBytes bs).code)) := by
  rw [exec_loads s rfl, loadBuffer_fits hfits, loadRx_rxClass, classify_loaded hwf]

/-- RX_LOAD of a buffer that does not fit drops the one held (R120, R177). -/
theorem exec_rxLoad_oversized {s : State} {bs : List Byte} (hlong : s.cfg.rxBufBytes < bs.length) :
    exec (.rxLoad bs) s = .next (answered s.dropRx (notOk .capacityExceeded)) := by
  rw [exec_loads s rfl, loadBuffer_oversized hlong]

/-- Answering leaves the receive side alone, so it does not matter which of the two updates comes
first. -/
theorem answered_loadRx (s : State) (bs : List Byte) (r : Response) :
    answered (s.loadRx bs) r = (answered s r).loadRx bs := rfl

theorem answered_dropRx (s : State) (r : Response) :
    answered s.dropRx r = (answered s r).dropRx := rfl

/-- Settles O36: by R120's test of the length; the buffer is the bytes written from offset 0, so a read
below their length gives them and a read beyond it what was there. -/
theorem loadStoresAndClassifies : Obligations.LoadStoresAndClassifies := by
  unfold Obligations.LoadStoresAndClassifies
  intro s bs
  refine ⟨fun hwf hfits => ?fits, fun hlong => ?oversized⟩
  case fits =>
    refine ⟨Memory.writeBytes s.rxBuf 0 bs, ?next, fun k hk => ?inside, fun a ha => ?beyond⟩
    case next =>
      rw [exec_rxLoad_fits hwf hfits, answered_loadRx, State.loadRx, answered_rxBuf,
        classify_loaded hwf]
    case inside => simpa using read_writeBytes_inside (off := 0) hwf hk
    case beyond => exact read_writeBytes_outside (.inr (by omega))
  case oversized => rw [exec_rxLoad_oversized hlong, answered_dropRx, State.dropRx]

/-! ### RX_RELEASE and RX_CLASSIFY (R122, R123) -/

theorem exec_rxRelease (s : State) :
    exec .rxRelease s = .next (answered s.dropRx (okValue 0)) :=
  respondValue_eq s.dropRx 0

theorem exec_rxClassify (s : State) :
    exec .rxClassify s = .next (answered s (okValue s.rxClass.code)) :=
  respondValue_eq s s.rxClass.code

theorem exec_rxClassify_of_class {s : State} {c : FrameClass} (h : s.rxClass = c) :
    exec .rxClassify s = .next (answered s (okValue c.code)) :=
  h ▸ exec_rxClassify s

/-- Settles O37: RX_RELEASE drops the buffer, and RX_CLASSIFY answers R83's code of each class. -/
theorem releaseAndClassifyEffect : Obligations.ReleaseAndClassifyEffect := by
  unfold Obligations.ReleaseAndClassifyEffect
  intro s
  refine ⟨?release, ?empty, ?command, ?telemetry, ?unknown⟩
  case release => rw [exec_rxRelease, answered_dropRx, State.dropRx]
  all_goals exact exec_rxClassify_of_class

end Sys2Proof
end

section
/-! A request that no row of the operation map spells (R85, R176). -/

namespace Sys2Proof

open Sys2Proof.Machine Sys2Proof.Safety Sys2Proof.Laws

/-- The decoder refuses every request that no row of the table spells: O4's equivalence, negated. -/
theorem decodeRequest_eq_none_of_no_row {r : Request} (h : ∀ row ∈ requestRows, ¬ row.Spells r) :
    decodeRequest r = none := by
  have hrows := (decoderMatchesOpcodeTable r).1
  refine Option.not_isSome_iff_eq_none.1 fun hsome => ?_
  obtain ⟨row, hrow, hspells⟩ := hrows.1 hsome
  exact h row hrow hspells

/-- A step with a request that does not decode consumes it and answers BAD_OPERATION (R85). -/
theorem step_of_undecoded_request {s : State} {r : Request} {rest : List Input}
    (h : s.inputs = .request r :: rest) (hd : decodeRequest r = none) :
    step s = .next (answered { s with inputs := rest } (notOk .badOperation)) := by
  simp only [step, h, stepInput, hd]
  exact raise_eq { s with inputs := rest } .badOperation

/-- Settles O7: no row spells the request, so it does not decode, and the step only answers it. -/
theorem malformedRequestChangesNothing : Obligations.MalformedRequestChangesNothing := by
  unfold Obligations.MalformedRequestChangesNothing
  intro s r rest hinputs hno
  exact step_of_undecoded_request hinputs (decodeRequest_eq_none_of_no_row hno)

end Sys2Proof
end

section
/-! The reset event (R190). -/

namespace Sys2Proof

open Sys2Proof.Machine Sys2Proof.Safety Sys2Proof.Laws

/-- A step with the reset event as the next input consumes it and resets the block (R190). -/
theorem step_of_reset {s : State} {rest : List Input} (h : s.inputs = .reset :: rest) :
    step s = .next (resetEvent { s with inputs := rest }) := by
  simp only [step, h, stepInput]

/-- Settles O51: the step is the reset event, and each element holds its reset value after it. -/
theorem resetEventEffect : Obligations.ResetEventEffect := by
  unfold Obligations.ResetEventEffect
  intro s rest hinputs
  exact ⟨_, step_of_reset hinputs, resetEvent_crc _, resetEvent_rxLen _, resetEvent_rxPresent _,
    resetEvent_rxClass _, resetEvent_txBuilt _, resetEvent_txLen _⟩

end Sys2Proof
end

section
/-! The encoder against the decoder, format by format (R80 to R85), and the written-out words of
R82. What an operation's row accepts has one shape per format, and the encoder writes that shape. -/

namespace Sys2Proof

open Sys2Proof.Machine Sys2Proof.Safety Sys2Proof.Laws

/-! ### What the encoder writes decodes -/

theorem OpCode.subAdmitted_zero (o : OpCode) : o.subAdmitted 0 = true := by cases o <;> rfl

/-- A request made of a row's `op`, an admitted `sub`, and as many operands and bytes as the row's
format asks for decodes to the row's operation. -/
theorem decodeRequest_requestWord {o : OpCode} {sub : Byte} {words : List Word} {block : List Byte}
    (hsub : o.subAdmitted sub = true) (hwords : words.length = o.format.operandCount sub)
    (hblock : block.length = o.format.blockLength sub words) :
    decodeRequest ⟨requestWord o.byte sub, words, block⟩ = some (o.instr sub words block) := by
  have h := decodeRequest_of (requestWord_rsv o.byte sub words block) (requestWord_op _ _ _ _)
  simp only [requestWord_sub] at h
  exact h hsub hwords hblock

theorem decode_requestN {o : OpCode} (h : o.format = .n) :
    decodeInput o.requestN = some (o.instr 0 [] []) :=
  decodeRequest_requestWord o.subAdmitted_zero (by rw [h]; rfl) (by rw [h]; rfl)

theorem decode_requestI {o : OpCode} (index : Word) (h : o.format = .i) :
    decodeInput (o.requestI index) = some (o.instr 0 [index] []) :=
  decodeRequest_requestWord o.subAdmitted_zero (by rw [h]; rfl) (by rw [h]; rfl)

theorem decode_requestIK {o : OpCode} (index : Word) {k : Byte} (h : o.format = .ik)
    (hk : o.subAdmitted k = true) :
    decodeInput (o.requestIK index k) = some (o.instr k [index] []) :=
  decodeRequest_requestWord hk (by rw [h]; rfl) (by rw [h]; rfl)

/-- A byte count that fits in an operand word is read back from it (R81). -/
theorem toNat_of_countFits {n : Nat} (h : Instr.countFits n = true) :
    (BitVec.ofNat 32 n).toNat = n := by
  have hlt : n < 2 ^ 32 := of_decide_eq_true h
  rw [BitVec.toNat_ofNat, Nat.mod_eq_of_lt hlt]

theorem decodeFrame_commandPreamble {rest : List Byte}
    (h : Instr.countFits (4 + rest.length) = true) :
    decodeFrame (le32 commandPreamble ++ rest) = some (.frameCommand rest) := by
  have hlt : 4 + rest.length < 2 ^ 32 := of_decide_eq_true h
  rw [decodeFrame, if_neg (by rw [List.length_append, le32_length]; omega),
    if_pos (preambleOf_le32 _ _)]
  rfl

theorem decodeFrame_telemetryPreamble {rest : List Byte}
    (h : Instr.countFits (4 + rest.length) = true) :
    decodeFrame (le32 telemetryPreamble ++ rest) = some (.frameTelemetry rest) := by
  have hlt : 4 + rest.length < 2 ^ 32 := of_decide_eq_true h
  have hother : preambleOf (le32 telemetryPreamble ++ rest) ≠ some commandPreamble := by
    rw [preambleOf_le32]; decide
  rw [decodeFrame, if_neg (by rw [List.length_append, le32_length]; omega), if_neg hother,
    if_pos (preambleOf_le32 _ _)]
  rfl

/-- Settles O2: the encoder writes each operation in its row's format, and the decoder reads a
request of each format back; a wire frame is told by its preamble. -/
theorem decodeOfEncodeIsIdentity : Obligations.DecodeOfEncodeIsIdentity := by
  unfold Obligations.DecodeOfEncodeIsIdentity
  intro i hwf
  cases i
  case crcByte b => exact decodeRequest_requestWord (o := .crcByte) rfl rfl rfl
  case txBuild dev cmd act arg1 arg2 payload =>
    cases payload with
    | none => exact decodeRequest_requestWord (o := .txBuild) rfl rfl rfl
    | some pl =>
      exact decodeRequest_requestWord (o := .txBuild) rfl rfl (toNat_of_countFits hwf).symm
  case rxLoad bs =>
    exact decodeRequest_requestWord (o := .rxLoad) rfl rfl (toNat_of_countFits hwf).symm
  case srPosition index k => exact decode_requestIK index rfl hwf
  case srOrientation index k => exact decode_requestIK index rfl hwf
  case tlmSensorRecord | srInfo | srSensorNumber | srIsVirtual | srPositionUnits
      | srOrientationUnits | srButton0 | srButton1 | srDistortionLevel | srAuxInput =>
    exact decode_requestI _ rfl
  case frameCommand rest => exact decodeFrame_commandPreamble hwf
  case frameTelemetry rest => exact decodeFrame_telemetryPreamble hwf
  all_goals exact decode_requestN rfl

/-! ### What decodes is what the encoder writes -/

section accepts
variable {o : OpCode} {r : Request}

/-- A request a row accepts is the row's `op` with the request's `sub`, operands and bytes. -/
theorem OpCode.Accepts.eq_requestWord (h : o.Accepts r) :
    r = ⟨requestWord o.byte r.sub, r.words, r.block⟩ := by
  rw [← h.op, ← word_of_fields h.rsv]

theorem OpCode.Accepts.sub_le (h : o.Accepts r) : r.sub.toNat ≤ o.format.subMax :=
  (Format.and_subMask_iff _ _).1 ((o.subAdmitted_iff _).1 h.sub).1

theorem OpCode.Accepts.sub_eq_zero (h : o.Accepts r) (hmax : o.format.subMax = 0) : r.sub = 0 :=
  BitVec.eq_of_toNat_eq (Nat.le_zero.1 (hmax ▸ h.sub_le))

theorem OpCode.Accepts.words_eq_nil (h : o.Accepts r) (hcount : o.format.operandCount r.sub = 0) :
    r.words = [] :=
  List.length_eq_zero_iff.1 (h.operands.trans hcount)

theorem OpCode.Accepts.words_eq_singleton (h : o.Accepts r)
    (hcount : o.format.operandCount r.sub = 1) : ∃ w, r.words = [w] :=
  List.length_eq_one_iff.1 (h.operands.trans hcount)

theorem OpCode.Accepts.block_eq_nil (h : o.Accepts r)
    (hcount : o.format.blockLength r.sub r.words = 0) : r.block = [] :=
  List.length_eq_zero_iff.1 (h.bytes.trans hcount)

theorem OpCode.Accepts.shape_n (h : o.Accepts r) (hf : o.format = .n) :
    r = ⟨requestWord o.byte 0, [], []⟩ := by
  rw [h.eq_requestWord, h.sub_eq_zero (by rw [hf]; rfl), h.words_eq_nil (by rw [hf]; rfl),
    h.block_eq_nil (by rw [hf]; rfl)]

theorem OpCode.Accepts.shape_b (h : o.Accepts r) (hf : o.format = .b) :
    ∃ sub, r = ⟨requestWord o.byte sub, [], []⟩ := by
  have hwords := h.words_eq_nil (by rw [hf]; rfl)
  have hblock := h.block_eq_nil (by rw [hf]; rfl)
  exact ⟨r.sub, h.eq_requestWord.trans (by rw [hwords, hblock])⟩

theorem OpCode.Accepts.shape_i (h : o.Accepts r) (hf : o.format = .i) :
    ∃ index, r = ⟨requestWord o.byte 0, [index], []⟩ := by
  obtain ⟨index, hwords⟩ := h.words_eq_singleton (by rw [hf]; rfl)
  exact ⟨index, by rw [h.eq_requestWord, h.sub_eq_zero (by rw [hf]; rfl), hwords,
    h.block_eq_nil (by rw [hf]; rfl)]⟩

theorem OpCode.Accepts.shape_ik (h : o.Accepts r) (hf : o.format = .ik) :
    ∃ k index, r = ⟨requestWord o.byte k, [index], []⟩ := by
  obtain ⟨index, hwords⟩ := h.words_eq_singleton (by rw [hf]; rfl)
  have hblock := h.block_eq_nil (by rw [hf]; rfl)
  exact ⟨r.sub, index, h.eq_requestWord.trans (by rw [hwords, hblock])⟩

theorem OpCode.Accepts.shape_ld (h : o.Accepts r) (hf : o.format = .ld) :
    ∃ count bs, bs.length = count.toNat ∧ r = ⟨requestWord o.byte 0, [count], bs⟩ := by
  obtain ⟨count, hwords⟩ := h.words_eq_singleton (by rw [hf]; rfl)
  have hblock : r.block.length = count.toNat := h.bytes.trans (by rw [hf, hwords]; rfl)
  exact ⟨count, r.block, hblock,
    h.eq_requestWord.trans (by rw [h.sub_eq_zero (by rw [hf]; rfl), hwords])⟩

/-- A TX_BUILD request has five operands and no byte block, or six and the payload they count. -/
theorem OpCode.Accepts.shape_bld (h : o.Accepts r) (hf : o.format = .bld) :
    (∃ dev cmd act arg1 arg2, r = ⟨requestWord o.byte 0, [dev, cmd, act, arg1, arg2], []⟩)
    ∨ ∃ dev cmd act arg1 arg2 plen pl, pl.length = plen.toNat
        ∧ r = ⟨requestWord o.byte 1, [dev, cmd, act, arg1, arg2, plen], pl⟩ := by
  have hle : r.sub.toNat ≤ 1 := (hf ▸ h.sub_le : r.sub.toNat ≤ Format.subMax .bld)
  have hbytes := h.bytes
  have hoperands := h.operands
  have hr := h.eq_requestWord
  rw [hf] at hbytes hoperands
  obtain hsub | hsub : r.sub = 0 ∨ r.sub = 1 := by bv_omega
  · rw [hsub] at hbytes hoperands hr
    match hwords : r.words, hoperands with
    | [dev, cmd, act, arg1, arg2], _ =>
      exact .inl ⟨dev, cmd, act, arg1, arg2,
        hr.trans (by rw [hwords, List.length_eq_zero_iff.1 hbytes])⟩
  · rw [hsub] at hbytes hoperands hr
    match hwords : r.words, hoperands with
    | [dev, cmd, act, arg1, arg2, plen], _ =>
      rw [hwords] at hbytes
      exact .inr ⟨dev, cmd, act, arg1, arg2, plen, r.block, hbytes, hr.trans (by rw [hwords])⟩

end accepts

/-- A count read from an operand word fits in one (R81). -/
theorem countFits_toNat {n : Nat} {w : Word} (h : n = w.toNat) : Instr.countFits n = true :=
  decide_eq_true (h ▸ w.isLt)

theorem ofNat_count {n : Nat} {w : Word} (h : n = w.toNat) : BitVec.ofNat 32 n = w := by
  rw [h, BitVec.ofNat_toNat, BitVec.setWidth_eq]

/-- The operation of a request its row accepts is well formed, and its encoding is that request. -/
theorem OpCode.Accepts.encode_instr {o : OpCode} {r : Request} (h : o.Accepts r) :
    WellFormed (o.instr r.sub r.words r.block) = true
      ∧ encode (o.instr r.sub r.words r.block) = .request r := by
  cases o
  case crcByte =>
    obtain ⟨sub, rfl⟩ := h.shape_b rfl
    exact ⟨rfl, by rw [requestWord_sub]; rfl⟩
  case txBuild =>
    obtain ⟨dev, cmd, act, arg1, arg2, rfl⟩ | ⟨dev, cmd, act, arg1, arg2, plen, pl, hlen, rfl⟩ :=
      h.shape_bld rfl
    · rw [requestWord_sub]
      exact ⟨rfl, rfl⟩
    · rw [requestWord_sub]
      refine ⟨countFits_toNat hlen, ?_⟩
      rw [← ofNat_count hlen]
      rfl
  case rxLoad =>
    obtain ⟨count, bs, hlen, rfl⟩ := h.shape_ld rfl
    refine ⟨countFits_toNat hlen, ?_⟩
    rw [← ofNat_count hlen]
    rfl
  case srPosition =>
    obtain ⟨k, index, rfl⟩ := h.shape_ik rfl
    exact ⟨h.sub, by rw [requestWord_sub]; rfl⟩
  case srOrientation =>
    obtain ⟨k, index, rfl⟩ := h.shape_ik rfl
    exact ⟨h.sub, by rw [requestWord_sub]; rfl⟩
  case tlmSensorRecord | srInfo | srSensorNumber | srIsVirtual | srPositionUnits
      | srOrientationUnits | srButton0 | srButton1 | srDistortionLevel | srAuxInput =>
    obtain ⟨index, rfl⟩ := h.shape_i rfl
    exact ⟨rfl, rfl⟩
  all_goals
    obtain rfl := h.shape_n rfl
    exact ⟨rfl, rfl⟩

/-- Settles O3: what decodes is accepted by a row, which leaves one shape to the request, and the
encoder writes that shape. -/
theorem encodeOfDecodeIsIdentity : Obligations.EncodeOfDecodeIsIdentity := by
  unfold Obligations.EncodeOfDecodeIsIdentity
  intro r i hdecode
  obtain ⟨o, haccepts, rfl⟩ := decodeRequest_eq_some_iff.1 hdecode
  exact haccepts.encode_instr

/-! ### The map and its words -/

/-- Settles O1: the decoder run on each of the written-out words. -/
theorem tableWordsDecode : Obligations.TableWordsDecode := by
  unfold Obligations.TableWordsDecode
  decide +kernel

theorem OpCode.byte_inj {a b : OpCode} (h : a.byte = b.byte) : a = b := by
  have hfind := ofByte_byte a
  rw [h, ofByte_byte b] at hfind
  exact (Option.some.inj hfind).symm

/-- Settles O5: a row's mask and match fix the low byte of the word, and no two rows share it. -/
theorem rowsOfTableAreDisjoint : Obligations.RowsOfTableAreDisjoint := by
  unfold Obligations.RowsOfTableAreDisjoint
  intro w a b ha hb hwa hwb
  obtain ⟨oa, rfl⟩ := mem_requestRows.1 ha
  obtain ⟨ob, rfl⟩ := mem_requestRows.1 hb
  obtain ⟨-, -, hopa⟩ := (oa.masked_word_iff ⟨w, [], []⟩).1 hwa
  obtain ⟨-, -, hopb⟩ := (ob.masked_word_iff ⟨w, [], []⟩).1 hwb
  rw [OpCode.byte_inj (hopa.symm.trans hopb)]

end Sys2Proof
end

section
/-! What one operation can do, once for all operations: the state it leaves, the response it gives,
and the rules about every operation that follow from it (R22, R28 to R33, R45, R46, R53, R84 and
R196). -/

namespace Sys2Proof

open Sys2Proof.Machine Sys2Proof.Safety Sys2Proof.Laws

/-! ### Every way an operation can end -/

/-- `Effect i s u r`: the operation `i` in state `s` leaves `u`, its response `r` not yet given. -/
inductive Effect : Instr → State → State → Response → Prop
  | value {i : Instr} {s : State} {r : Response} : readsOnly i = true →
      (r.status ≠ .ok → r = notOk r.status) → r.off = 0 → r.len = 0 → Effect i s s r
  | slice {i : Instr} {s : State} (v : Word) (off len : Nat) : readsOnly i = true →
      (len = 0 ∨ off + len ≤ s.rxLen) →
      Effect i s (s.grant ⟨off, len⟩) ⟨.ok, v, u32 off, u32 len⟩
  | clear (s : State) : Effect .crcClear s (s.setCrc 0) (okValue 0)
  | byte (b : Byte) (s : State) : Effect (.crcByte b) s (s.setCrc (crcStep s.crc b)) (okValue 0)
  | latch {dev cmd act arg1 arg2 : Word} {payload : Option (List Byte)} {s : State} :
      PayloadFits s.cfg (keptPayload act payload).length →
      Effect (.txBuild dev cmd act arg1 arg2 payload) s
        (s.latchTx dev cmd act arg1 arg2 (u32 (24 + (keptPayload act payload).length))
          (keptPayload act payload))
        (okValue (u32 (24 + (keptPayload act payload).length)))
  | discard {dev cmd act arg1 arg2 : Word} {payload : Option (List Byte)} {s : State} :
      Effect (.txBuild dev cmd act arg1 arg2 payload) s s.discardTx (notOk .capacityExceeded)
  | unbuilt {s : State} : s.txBuilt = false → Effect .txSerialize s s (notOk .naEmpty)
  | store {s : State} {frame : List Byte} : s.txBuilt = true → frame = frameBytes s →
      Effect .txSerialize s (s.storeTx frame)
        (okValue (lengthValue Config.serializeLengthBeyondWord frame.length))
  | load {i : Instr} {bs : List Byte} {s : State} : loadedBytes i = some bs →
      bs.length ≤ s.cfg.rxBufBytes → Effect i s (s.loadRx bs) (okValue (s.loadRx bs).rxClass.code)
  | overflow {i : Instr} {bs : List Byte} {s : State} : loadedBytes i = some bs →
      s.cfg.rxBufBytes < bs.length → Effect i s s.dropRx (notOk .capacityExceeded)
  | release (s : State) : Effect .rxRelease s s.dropRx (okValue 0)

/-- An operation is one that reads, one that loads, or one of the five others. -/
theorem instr_kinds {P : Instr → Prop} (reads : ∀ i, readsOnly i = true → P i)
    (loads : ∀ i bs, loadedBytes i = some bs → P i) (clear : P .crcClear)
    (byte : ∀ b, P (.crcByte b))
    (build : ∀ dev cmd act arg1 arg2 payload, P (.txBuild dev cmd act arg1 arg2 payload))
    (serialize : P .txSerialize) (release : P .rxRelease) (i : Instr) : P i := by
  cases i
  case crcClear => exact clear
  case crcByte b => exact byte b
  case txBuild => exact build _ _ _ _ _ _
  case txSerialize => exact serialize
  case rxRelease => exact release
  case rxLoad | frameCommand | frameTelemetry => exact loads _ _ rfl
  all_goals exact reads _ rfl

theorem exec_txSerialize_unbuilt {s : State} (h : s.txBuilt = false) :
    exec .txSerialize s = .next (answered s (notOk .naEmpty)) := by
  rw [exec_txSerialize, if_pos h]

theorem exec_txSerialize_built {s : State} (h : s.txBuilt = true) :
    exec .txSerialize s = .next (answered (s.storeTx (frameBytes s))
      (okValue (lengthValue Config.serializeLengthBeyondWord (frameBytes s).length))) := by
  rw [exec_txSerialize, if_neg (by rw [h]; decide)]

theorem exec_effect (i : Instr) (s : State) :
    ∃ u r, Effect i s u r ∧ exec i s = .next (answered u r) := by
  induction i using instr_kinds with
  | reads i h =>
    obtain ⟨r, hexec, hzero, hoff, hlen⟩ | ⟨v, off, len, hexec, hvalid⟩ := exec_reads s h
    · exact ⟨s, r, .value h hzero hoff hlen, hexec⟩
    · exact ⟨_, _, .slice v off len h hvalid, hexec⟩
  | loads i bs h =>
    rw [exec_loads s h]
    obtain hfits | hlong := le_or_gt bs.length s.cfg.rxBufBytes
    · exact ⟨_, _, .load h hfits, loadBuffer_fits hfits⟩
    · exact ⟨_, _, .overflow h hlong, loadBuffer_oversized hlong⟩
  | clear => exact ⟨_, _, .clear s, exec_crcClear s⟩
  | byte b => exact ⟨_, _, .byte b s, exec_crcByte b s⟩
  | build dev cmd act arg1 arg2 payload =>
    by_cases hfits : PayloadFits s.cfg (keptPayload act payload).length
    · exact ⟨_, _, .latch hfits, exec_txBuild_fits _ _ _ _ _ hfits⟩
    · exact ⟨_, _, .discard, exec_txBuild_oversized _ _ _ _ _ hfits⟩
  | serialize =>
    cases hbuilt : s.txBuilt with
    | false => exact ⟨_, _, .unbuilt hbuilt, exec_txSerialize_unbuilt hbuilt⟩
    | true => exact ⟨_, _, .store hbuilt rfl, exec_txSerialize_built hbuilt⟩
  | release => exact ⟨_, _, .release s, exec_rxRelease s⟩

/-- An operation that ends in `t` ends in one of the ways of `Effect`. -/
theorem effect_of_exec {i : Instr} {s t : State} (h : exec i s = .next t) :
    ∃ u r, Effect i s u r ∧ t = answered u r := by
  obtain ⟨u, r, heffect, hexec⟩ := exec_effect i s
  exact ⟨u, r, heffect, Host.Outcome.next.inj (h.symm.trans hexec)⟩

theorem Effect.outputs_eq {i : Instr} {s u : State} {r : Response} (h : Effect i s u r) :
    u.outputs = s.outputs := by
  cases h <;> rfl

/-- The response an operation is seen to give is that of its effect. -/
theorem effect_of_response {i : Instr} {s t : State} {r : Response} (h : exec i s = .next t)
    (hr : t.outputs = s.outputs ++ [.response r]) : ∃ u, Effect i s u r ∧ t = answered u r := by
  obtain ⟨u, r', heffect, rfl⟩ := effect_of_exec h
  rw [answered_outputs, heffect.outputs_eq] at hr
  obtain rfl : r' = r := by simpa using hr
  exact ⟨u, heffect, rfl⟩

/-! ### Which operations -/

theorem loadsOrReleases_of_loadedBytes {i : Instr} {bs : List Byte} (h : loadedBytes i = some bs) :
    loadsOrReleases i = true := by
  cases i
  case rxLoad | frameCommand | frameTelemetry => rfl
  all_goals cases h

theorem loads_or_release {i : Instr} (h : loadsOrReleases i = true) :
    i = .rxRelease ∨ ∃ bs, loadedBytes i = some bs := by
  cases i
  case rxRelease => exact .inl rfl
  case rxLoad | frameCommand | frameTelemetry => exact .inr ⟨_, rfl⟩
  all_goals cases h

/-! ### Rules about every operation -/

/-- Settles O14: a status other than OK comes with zeros in every way an operation can end, and of
the ways that write state only TX_BUILD's and the loads' have such a status. -/
theorem nonOkStatusCarriesZerosAndOnlyBuildOrLoadWrites :
    Obligations.NonOkStatusCarriesZerosAndOnlyBuildOrLoadWrites := by
  unfold Obligations.NonOkStatusCarriesZerosAndOnlyBuildOrLoadWrites
  intro i s t r hexec hr hstatus
  obtain ⟨u, heffect, rfl⟩ := effect_of_response hexec hr
  cases heffect with
  | value _ hzero => exact ⟨hzero hstatus, fun _ _ => rfl⟩
  | unbuilt => exact ⟨rfl, fun _ _ => rfl⟩
  | discard => exact ⟨rfl, fun hbuild => absurd rfl (hbuild _ _ _ _ _ _)⟩
  | overflow hload => exact ⟨rfl, fun _ hnone => nomatch hload.symm.trans hnone⟩
  | slice | clear | byte | latch | store | load | release => exact absurd rfl hstatus

/-- Settles O15: an operation that reads answers, and grants a slice at most. -/
theorem readingOperationsWriteNothing : Obligations.ReadingOperationsWriteNothing := by
  unfold Obligations.ReadingOperationsWriteNothing
  intro i s hreads
  obtain ⟨r, hexec, -⟩ | ⟨v, off, len, hexec, -⟩ := exec_reads s hreads
  · exact ⟨r, s.slices, hexec, fun _ h => h⟩
  · rw [respondSlice_eq] at hexec
    exact ⟨_, _, hexec, fun sl h => (mem_grant s _ sl).2 (.inr h)⟩

/-- Settles O18: no effect but CRC_CLEAR's and CRC_BYTE's sets `crc`, and the three CRC_* operations
each have one rule. -/
theorem onlyChecksumOperationsWriteCrc : Obligations.OnlyChecksumOperationsWriteCrc := by
  unfold Obligations.OnlyChecksumOperationsWriteCrc
  intro i s t hexec
  constructor
  · intro hcrc
    obtain ⟨u, r, heffect, rfl⟩ := effect_of_exec hexec
    cases heffect with
    | clear | byte => cases hcrc
    | value | slice | latch | discard | unbuilt | store | load | overflow | release => rfl
  · intro hcrc
    cases i
    case crcClear => cases hexec; rfl
    case crcByte b => cases hexec; rfl
    case crcRead => cases hexec; rfl
    all_goals cases hcrc

/-- Settles O19: only a load's and RX_RELEASE's effects touch the receive side. -/
theorem onlyLoadAndReleaseChangeReceivedBytes :
    Obligations.OnlyLoadAndReleaseChangeReceivedBytes := by
  unfold Obligations.OnlyLoadAndReleaseChangeReceivedBytes
  intro i s t hkeeps hexec
  obtain ⟨u, r, heffect, rfl⟩ := effect_of_exec hexec
  cases heffect with
  | load hload | overflow hload =>
    exact absurd (hkeeps.symm.trans (loadsOrReleases_of_loadedBytes hload)) Bool.false_ne_true
  | release => cases hkeeps
  | value | slice | clear | byte | latch | discard | unbuilt | store => exact ⟨rfl, rfl, rfl, rfl⟩

/-- Settles O20: only TX_BUILD's effects touch the built frame, and only
TX_SERIALIZE's the buffer. -/
theorem onlyBuildAndSerializeChangeTransmitState :
    Obligations.OnlyBuildAndSerializeChangeTransmitState := by
  unfold Obligations.OnlyBuildAndSerializeChangeTransmitState
  intro i s t hexec
  obtain ⟨u, r, heffect, rfl⟩ := effect_of_exec hexec
  cases heffect with
  | latch | discard => exact ⟨fun hbuild => absurd rfl (hbuild _ _ _ _ _ _), fun _ => rfl⟩
  | store =>
    exact ⟨fun _ => ⟨rfl, rfl, rfl, rfl, rfl, rfl, rfl, rfl, fun h => absurd rfl h⟩,
      fun h => absurd rfl h⟩
  | value | slice | clear | byte | unbuilt | load | overflow | release =>
    exact ⟨fun _ => ⟨rfl, rfl, rfl, rfl, rfl, rfl, rfl, rfl, fun _ => rfl⟩, fun _ => rfl⟩

/-- Settles O21: a load latches the class of its bytes or drops the buffer, RX_RELEASE drops it, and
by O19 no other operation touches the class. -/
theorem frameParserTransitions : Obligations.FrameParserTransitions := by
  unfold Obligations.FrameParserTransitions
  intro i s t hinv hexec
  refine ⟨fun bs hload hfits => ?fits, fun bs hload hlong => ?long, ?release, fun hkeeps => ?other⟩
  case fits =>
    rw [exec_loads s hload, loadBuffer_fits hfits] at hexec
    cases hexec
    exact classify_loaded hinv.rxCanonical
  case long =>
    rw [exec_loads s hload, loadBuffer_oversized hlong] at hexec
    cases hexec
    rfl
  case release =>
    rintro rfl
    rw [exec_rxRelease] at hexec
    cases hexec
    rfl
  case other =>
    obtain ⟨-, -, -, hclass⟩ := onlyLoadAndReleaseChangeReceivedBytes i s t hkeeps hexec
    exact hclass

/-- Settles O23: a response names a slice only in the way that holds it to the valid bytes, whose
count an operand word holds, so the two words are exact. -/
theorem slicesLieInReceivedBytes : Obligations.SlicesLieInReceivedBytes := by
  unfold Obligations.SlicesLieInReceivedBytes
  intro i s t r hinv hexec hr hok
  obtain ⟨u, heffect, rfl⟩ := effect_of_response hexec hr
  cases heffect with
  | value _ _ _ hlen => exact .inr hlen
  | slice v off len _ hvalid =>
    obtain rfl | hle := hvalid
    · exact .inr rfl
    · have hword := hinv.rxLenWord
      left
      rw [u32_toNat (by omega), u32_toNat (by omega)]
      exact hle
  | clear | byte | latch | discard | unbuilt | store | load | overflow | release => exact .inr rfl

/-! ### The transmit side (R33) -/

theorem Safety.BlockInv.txLen_of_built {s : State} (h : BlockInv s) :
    s.txLen = 0 ∨ s.txBuilt = true ∧ s.txLen = 8 + s.txSize.toNat := by
  by_cases hlen : s.txLen = 0
  · exact .inl hlen
  · have hbuilt : s.txBuilt = true := Bool.of_not_eq_false fun hidle => hlen (h.txIdle hidle)
    exact .inr ⟨hbuilt, h.txReadyLength hlen⟩

theorem txState_idle {s : State} (hbuilt : s.txBuilt = false) (hlen : s.txLen = 0) :
    txState s = some .idle := by
  simp [txState, hbuilt, hlen]

theorem txState_built {s : State} (hbuilt : s.txBuilt = true) (hlen : s.txLen = 0) :
    txState s = some .built := by
  simp [txState, hbuilt, hlen]

theorem txState_ready {s : State} (hbuilt : s.txBuilt = true)
    (hlen : s.txLen = 8 + s.txSize.toNat) :
    txState s = some .ready := by
  have hpos : s.txLen ≠ 0 := by omega
  simp [txState, hbuilt, hlen]

theorem Safety.BlockInv.txState_unbuilt {s : State} (h : BlockInv s) (hbuilt : s.txBuilt = false) :
    txState s = some .idle :=
  txState_idle hbuilt (h.txIdle hbuilt)

theorem Safety.BlockInv.txState_of_built {s : State} (h : BlockInv s) (hbuilt : s.txBuilt = true) :
    txState s = some .built ∨ txState s = some .ready := by
  obtain hlen | ⟨-, hlen⟩ := h.txLen_of_built
  · exact .inl (txState_built hbuilt hlen)
  · exact .inr (txState_ready hbuilt hlen)

/-- The frame of a built block is as long as its `size` says. -/
theorem Safety.BlockInv.frameBytes_length_eq {s : State} (h : BlockInv s)
    (hbuilt : s.txBuilt = true) :
    (frameBytes s).length = 8 + s.txSize.toNat := by
  rw [frameBytes_length, h.txSizeHeld hbuilt]
  simp only [CH, CKW]
  omega

theorem Safety.BlockInv.exists_txState {s : State} (h : BlockInv s) : ∃ x, txState s = some x := by
  cases hbuilt : s.txBuilt with
  | false => exact ⟨_, h.txState_unbuilt hbuilt⟩
  | true => exact (h.txState_of_built hbuilt).elim (fun hx => ⟨_, hx⟩) (fun hx => ⟨_, hx⟩)

theorem txState_of_build {dev cmd act arg1 arg2 : Word} {payload : Option (List Byte)} {s t : State}
    (hexec : exec (.txBuild dev cmd act arg1 arg2 payload) s = .next t) :
    (PayloadFits s.cfg (keptPayload act payload).length → txState t = some .built)
    ∧ (¬ PayloadFits s.cfg (keptPayload act payload).length → txState t = some .idle) := by
  constructor
  · intro hfits
    rw [exec_txBuild_fits _ _ _ _ _ hfits] at hexec
    cases hexec
    exact txState_built rfl rfl
  · intro hlong
    rw [exec_txBuild_oversized _ _ _ _ _ hlong] at hexec
    cases hexec
    exact txState_idle rfl rfl

theorem txState_of_serialize {s t : State} {x : TxState} (hinv : BlockInv s)
    (hx : txState s = some x) (hexec : exec .txSerialize s = .next t) :
    txState t = some (if x = .idle then .idle else .ready) := by
  cases hbuilt : s.txBuilt with
  | false =>
    rw [exec_txSerialize_unbuilt hbuilt] at hexec
    cases hexec
    obtain rfl : TxState.idle = x := Option.some.inj ((hinv.txState_unbuilt hbuilt).symm.trans hx)
    exact hx
  | true =>
    have hnotIdle : x ≠ .idle := by
      rintro rfl
      obtain h | h := hinv.txState_of_built hbuilt <;> exact nomatch h.symm.trans hx
    rw [exec_txSerialize_built hbuilt] at hexec
    obtain rfl := Host.Outcome.next.inj hexec
    rw [if_neg hnotIdle]
    exact txState_ready (by simpa using hbuilt) (by simpa using hinv.frameBytes_length_eq hbuilt)

/-- Settles O22: TX_BUILD and TX_SERIALIZE by their rules; by O20 no other operation touches what
the three states are told by. -/
theorem transmitSideTransitions : Obligations.TransmitSideTransitions := by
  unfold Obligations.TransmitSideTransitions
  intro i s t hinv hexec
  obtain ⟨x, hx⟩ := hinv.exists_txState
  refine ⟨x, hx, ?build, ?serialize, fun hbuild hserialize => ?other⟩
  case build =>
    rintro dev cmd act arg1 arg2 payload rfl
    exact txState_of_build hexec
  case serialize =>
    rintro rfl
    exact txState_of_serialize hinv hx hexec
  case other =>
    obtain ⟨hframe, -⟩ := onlyBuildAndSerializeChangeTransmitState i s t hexec
    obtain ⟨hbuilt, -, -, -, -, -, hsize, -, hlen⟩ := hframe hbuild
    rw [← hx, txState, txState, hbuilt, hsize, hlen hserialize]

end Sys2Proof
end

section
/-! One step, whatever the input (R50, R199), and the invariant it keeps (R24 to R33, R46, R49). -/

namespace Sys2Proof

open Sys2Proof.Machine Sys2Proof.Safety Sys2Proof.Laws

/-! ### Every way a step can end -/

/-- `InputEffect inp s t`: the input `inp`, taken in state `s`, leads to the next state `t`. -/
inductive InputEffect : Input → State → State → Prop
  | runs {inp : Input} {i : Instr} {s t : State} : decodeInput inp = some i → exec i s = .next t →
      InputEffect inp s t
  | malformed {inp : Input} {s : State} : InputEffect inp s (answered s (notOk .badOperation))
  | reset (s : State) : InputEffect .reset s (resetEvent s)
  | readRx (off n : Nat) (s : State) :
      InputEffect (.readRx off n) s (s.emit (.bytes (Memory.readBytes s.rxBuf off n)))
  | readTx (off n : Nat) (s : State) :
      InputEffect (.readTx off n) s (s.emit (.bytes (Memory.readBytes s.txBuf off n)))

theorem inputEffect_of_stepInput {inp : Input} {s t : State} (h : stepInput inp s = .next t) :
    InputEffect inp s t := by
  cases inp with
  | request r =>
    cases hd : decodeRequest r with
    | some i => exact .runs hd (by simpa only [stepInput, hd] using h)
    | none =>
      simp only [stepInput, hd] at h
      cases h
      exact .malformed
  | frame bs =>
    cases hd : decodeFrame bs with
    | some i => exact .runs hd (by simpa only [stepInput, hd] using h)
    | none =>
      simp only [stepInput, hd] at h
      cases h
      exact .malformed
  | reset => cases h; exact .reset s
  | readRx off n =>
    simp only [stepInput, hostReadRx] at h
    split at h
    · cases h
    · split at h
      · cases h; exact .readRx off n s
      · cases h
  | readTx off n =>
    simp only [stepInput, hostReadTx] at h
    split at h
    · cases h
    · split at h
      · cases h; exact .readTx off n s
      · cases h

/-- A step with no input pending (R178). -/
theorem step_idle {s : State} (h : s.inputs = []) : step s = .next s := by simp only [step, h]

theorem step_of_inputs {s : State} {inp : Input} {rest : List Input} (h : s.inputs = inp :: rest) :
    step s = stepInput inp { s with inputs := rest } := by simp only [step, h]

theorem step_next_cases {s t : State} (h : step s = .next t) :
    t = s ∨ ∃ inp rest, InputEffect inp { s with inputs := rest } t := by
  cases hin : s.inputs with
  | nil => exact .inl (Host.Outcome.next.inj (h.symm.trans (step_idle hin)))
  | cons inp rest => exact .inr ⟨inp, rest, inputEffect_of_stepInput (step_of_inputs hin ▸ h)⟩

/-- Settles O6: by the law of a step whose input decodes. -/
theorem stepRunsDecodedOperation : Obligations.StepRunsDecodedOperation := by
  unfold Obligations.StepRunsDecodedOperation
  intro s inp rest i hin hdecode
  exact step_of_decode hin hdecode

/-- Settles O9: the step of an empty queue. -/
theorem nothingHappensWithoutInput : Obligations.NothingHappensWithoutInput := by
  unfold Obligations.NothingHappensWithoutInput
  intro s hin
  exact step_idle hin

/-- Settles O8: a request decodes, and its operation answers once, or it is answered
BAD_OPERATION. -/
theorem everyRequestIsAnsweredOnce : Obligations.EveryRequestIsAnsweredOnce := by
  unfold Obligations.EveryRequestIsAnsweredOnce
  intro s r rest hin
  cases hdecode : decodeRequest r with
  | none => exact ⟨_, _, step_of_undecoded_request hin hdecode, rfl, rfl, rfl⟩
  | some i =>
    obtain ⟨t, resp, hexec, hout, hinputs, hcfg⟩ := exec_answers i { s with inputs := rest }
    exact ⟨t, resp, (step_of_decode hin hdecode).trans hexec, hinputs, hcfg, hout⟩

/-- Settles O10: no effect of an operation, and none of the other inputs, writes the parameters. -/
theorem parametersNeverChange : Obligations.ParametersNeverChange := by
  unfold Obligations.ParametersNeverChange
  intro s t hstep
  obtain rfl | ⟨inp, rest, heffect⟩ := step_next_cases hstep
  · rfl
  · cases heffect with
    | runs _ hexec =>
      obtain ⟨t', -, hexec', -, -, hcfg⟩ := exec_answers _ { s with inputs := rest }
      obtain rfl := Host.Outcome.next.inj (hexec.symm.trans hexec')
      exact hcfg
    | malformed | reset | readRx | readTx => rfl

/-! ### What a decoded load carries -/

theorem loaded_lt_of_wellFormed {i : Instr} {bs : List Byte} (hload : loadedBytes i = some bs)
    (hwf : WellFormed i = true) : bs.length < 2 ^ 32 := by
  cases i <;> simp only [loadedBytes, reduceCtorEq, Option.some.injEq] at hload <;> subst hload
  case rxLoad => exact of_decide_eq_true hwf
  case frameCommand rest | frameTelemetry rest =>
    rw [List.length_append]
    exact of_decide_eq_true hwf

/-- A delivered buffer that an operand word can count decodes to a load of its bytes (log 4). -/
theorem decodeFrame_loads {bs : List Byte} (h : bs.length < 2 ^ 32) :
    ∃ i, decodeFrame bs = some i ∧ loadedBytes i = some bs := by
  have hshort : ¬ 2 ^ 32 ≤ bs.length := Nat.not_le.2 h
  by_cases hcommand : preambleOf bs = some commandPreamble
  · refine ⟨.frameCommand (bs.drop 4), by rw [decodeFrame, if_neg hshort, if_pos hcommand], ?_⟩
    rw [loadedBytes, ← commandMark_eq, ← eq_of_preambleOf hcommand]
  by_cases htelemetry : preambleOf bs = some telemetryPreamble
  · refine ⟨.frameTelemetry (bs.drop 4), ?_, ?_⟩
    · rw [decodeFrame, if_neg hshort, if_neg hcommand, if_pos htelemetry]
    · rw [loadedBytes, ← telemetryMark_eq, ← eq_of_preambleOf htelemetry]
  · exact ⟨.rxLoad bs, by rw [decodeFrame, if_neg hshort, if_neg hcommand, if_neg htelemetry], rfl⟩

theorem decodeFrame_too_long {bs : List Byte} (h : 2 ^ 32 ≤ bs.length) : decodeFrame bs = none :=
  if_pos h

/-- What any input decodes to loads no more bytes than an operand word can count. -/
theorem loaded_lt_of_decodeInput {inp : Input} {i : Instr} {bs : List Byte}
    (hdecode : decodeInput inp = some i) (hload : loadedBytes i = some bs) :
    bs.length < 2 ^ 32 := by
  cases inp with
  | request r => exact loaded_lt_of_wellFormed hload (encodeOfDecodeIsIdentity r i hdecode).1
  | frame delivered =>
    obtain hlong | hlt := le_or_gt (2 ^ 32) delivered.length
    · exact nomatch (decodeFrame_too_long hlong).symm.trans hdecode
    · obtain ⟨i', hdecode', hload'⟩ := decodeFrame_loads hlt
      obtain rfl : i' = i := Option.some.inj (hdecode'.symm.trans hdecode)
      obtain rfl : delivered = bs := Option.some.inj (hload'.symm.trans hload)
      exact hlt
  | reset | readRx | readTx => cases hdecode

/-- Settles O39: both inputs decode to a load of the same bytes. -/
theorem deliveredBufferIsRxLoad : Obligations.DeliveredBufferIsRxLoad := by
  unfold Obligations.DeliveredBufferIsRxLoad
  intro s bs rest hlt
  obtain ⟨i, hframe, hload⟩ := decodeFrame_loads hlt
  have hrequest : decodeInput (.request ⟨0x00000020, [BitVec.ofNat 32 bs.length], bs⟩)
      = some (.rxLoad bs) := decodeOfEncodeIsIdentity (.rxLoad bs) (decide_eq_true hlt)
  rw [step_of_decode rfl (show decodeInput (.frame bs) = some i from hframe),
    step_of_decode rfl hrequest, exec_loads _ hload, exec_loads _ rfl]

/-! ### The invariant -/

section invariant
variable {s : State}

theorem Safety.BlockInv.withInputs (h : BlockInv s) (rest : List Input) :
    BlockInv { s with inputs := rest } := { h with }

theorem Safety.BlockInv.emit (h : BlockInv s) (o : Output) : BlockInv (s.emit o) := { h with }

theorem Safety.BlockInv.setCrc (h : BlockInv s) (c : Half) : BlockInv (s.setCrc c) := { h with }

theorem Safety.BlockInv.grant (h : BlockInv s) {sl : Slice}
    (hvalid : sl.len = 0 ∨ sl.off + sl.len ≤ s.rxLen) : BlockInv (s.grant sl) :=
  { h with
    slicesValid := fun x hx => ((mem_grant s sl x).1 hx).elim (fun he => he ▸ hvalid)
      (h.slicesValid x) }

theorem Safety.BlockInv.dropRx (h : BlockInv s) : BlockInv s.dropRx :=
  { h with
    rxLenFits := Nat.zero_le _
    rxLenWord := Nat.two_pow_pos 32
    rxClassLatched := (classify_absent_or_empty _ (.inl rfl)).symm
    rxAbsent := fun _ => rfl
    slicesValid := nofun }

theorem Safety.BlockInv.loadRx (h : BlockInv s) {bs : List Byte}
    (hfits : bs.length ≤ s.cfg.rxBufBytes) (hword : bs.length < 2 ^ 32) : BlockInv (s.loadRx bs) :=
  { h with
    rxCanonical := writeBytes_wf 0 bs h.rxCanonical
    rxInSpace := writeBytes_below h.rxInSpace ((Nat.zero_add _).symm ▸ hfits)
    rxLenFits := hfits
    rxLenWord := hword
    rxClassLatched := rfl
    rxAbsent := nofun
    slicesValid := nofun }

theorem Safety.BlockInv.discardTx (h : BlockInv s) : BlockInv s.discardTx :=
  { h with
    txIdle := fun _ => rfl
    txSizeHeld := nofun
    txPayloadFits := nofun
    txPayloadOnlySet := nofun
    txReadyLength := fun hlen => absurd rfl hlen
    txReadyBytes := fun hlen => absurd rfl hlen }

theorem keptPayload_eq_nil {act : Word} (payload : Option (List Byte)) (h : act ≠ 0) :
    keptPayload act payload = [] :=
  if_neg h

theorem Safety.BlockInv.latchTx (h : BlockInv s) (dev cmd act arg1 arg2 : Word)
    {payload : Option (List Byte)} (hfits : PayloadFits s.cfg (keptPayload act payload).length) :
    BlockInv (s.latchTx dev cmd act arg1 arg2 (u32 (24 + (keptPayload act payload).length))
      (keptPayload act payload)) := by
  obtain ⟨hmax, hu32⟩ := hfits
  exact { h with
    txIdle := nofun
    txSizeHeld := fun _ => by
      rw [latchTx_txSize, latchTx_txPl, u32_toNat (by omega)]
      simp only [CH, CKW]
      omega
    txPayloadFits := fun _ => hmax
    txPayloadOnlySet := fun _ => keptPayload_eq_nil payload
    txReadyLength := fun hlen => absurd rfl hlen
    txReadyBytes := fun hlen => absurd rfl hlen }

/-- A built frame fits in TX. -/
theorem Safety.BlockInv.frameBytes_fits (h : BlockInv s) (hbuilt : s.txBuilt = true) {c : Nat}
    (hc : txCapacity s.cfg = some c) : (frameBytes s).length ≤ c := by
  obtain ⟨n, hn, rfl⟩ := Option.map_eq_some_iff.1 hc
  have hle := h.txPayloadFits hbuilt n hn
  rw [frameBytes_length]
  simp only [FH, CH, CKW]
  omega

theorem frameBytes_storeTx (s : State) (frame : List Byte) :
    frameBytes (s.storeTx frame) = frameBytes s :=
  frameBytes_congr rfl rfl rfl rfl rfl rfl rfl

theorem Safety.BlockInv.storeTx (h : BlockInv s) (hbuilt : s.txBuilt = true) {frame : List Byte}
    (hframe : frame = frameBytes s) : BlockInv (s.storeTx frame) :=
  { h with
    txCanonical := writeBytes_wf 0 frame h.txCanonical
    txInSpace := fun c hc =>
      writeBytes_below (h.txInSpace c hc) (by simpa [hframe] using h.frameBytes_fits hbuilt hc)
    txIdle := fun hidle => absurd (hidle.symm.trans hbuilt) Bool.false_ne_true
    txReadyLength := fun _ => hframe ▸ h.frameBytes_length_eq hbuilt
    txReadyBytes := fun _ => by
      rw [frameBytes_storeTx, ← hframe]
      exact readBytes_writeBytes 0 frame h.txCanonical }

theorem blockInv_resetWith (c : Config) : BlockInv (State.resetWith c) where
  rxCanonical := rfl
  rxInSpace := rfl
  rxLenFits := Nat.zero_le _
  rxLenWord := Nat.two_pow_pos 32
  rxClassLatched := rfl
  rxAbsent := fun _ => rfl
  txCanonical := rfl
  txInSpace := fun _ _ => rfl
  txIdle := fun _ => rfl
  txSizeHeld := nofun
  txPayloadFits := nofun
  txPayloadOnlySet := nofun
  txReadyLength := fun hlen => absurd rfl hlen
  txReadyBytes := fun hlen => absurd rfl hlen
  slicesValid := nofun

/-- Every effect of an operation keeps the invariant, if what it loads a request can carry. -/
theorem Effect.keeps_blockInv {i : Instr} {u : State} {r : Response} (heffect : Effect i s u r)
    (h : BlockInv s) (hword : ∀ bs, loadedBytes i = some bs → bs.length < 2 ^ 32) : BlockInv u := by
  cases heffect with
  | value | unbuilt => exact h
  | slice v off len _ hvalid => exact h.grant hvalid
  | clear | byte => exact h.setCrc _
  | latch hfits => exact h.latchTx _ _ _ _ _ hfits
  | discard => exact h.discardTx
  | store hbuilt hframe => exact h.storeTx hbuilt hframe
  | load hload hfits => exact h.loadRx hfits (hword _ hload)
  | overflow | release => exact h.dropRx

end invariant

/-- Settles O11: field by field, most of them because nothing is held. -/
theorem invariantAtReset : Obligations.InvariantAtReset := by
  unfold Obligations.InvariantAtReset
  exact blockInv_resetWith

/-- Settles O12: an operation keeps the invariant by its effect, and the other inputs only answer,
give bytes, or reset. -/
theorem stepKeepsInvariant : Obligations.StepKeepsInvariant := by
  unfold Obligations.StepKeepsInvariant
  intro s t hinv hstep
  obtain rfl | ⟨inp, rest, hinput⟩ := step_next_cases hstep
  · exact hinv
  · have hinv' := hinv.withInputs rest
    cases hinput with
    | runs hdecode hexec =>
      obtain ⟨u, r, heffect, rfl⟩ := effect_of_exec hexec
      exact (heffect.keeps_blockInv hinv' fun _ => loaded_lt_of_decodeInput hdecode).emit _
    | malformed => exact hinv'.emit _
    | reset => exact (blockInv_resetWith s.cfg).withInputs rest
    | readRx | readTx => exact hinv'.emit _

end Sys2Proof
end

section
/-! The guards of the operations that read a frame: what a failed guard ends in, and the classes,
header bytes and records that fail it (R47, R124, R140, R150, R156, R173). -/

namespace Sys2Proof

open Sys2Proof.Machine Sys2Proof.Safety Sys2Proof.Laws

section guards
variable {s : State} {st : Status} {i : Instr} {stop : Nat} {index : Word}

/-! ### What a failed guard ends in -/

theorem commandField_error {off : Nat} (h : requireCommand s (off + 4) = .error st) :
    commandField s off = .error st := by
  rw [commandField, h]

theorem telemetryField_error {off : Nat} (h : requireTelemetry s (off + 4) = .error st) :
    telemetryField s off = .error st := by
  rw [telemetryField, h]

theorem recordWord_error (off : Nat) (h : resolveRecord s index = .error st) :
    recordWord s index off = .error st := by
  rw [recordWord, h]

theorem recordInfoField_error (lo : Nat) (mask : Word) (h : resolveRecord s index = .error st) :
    recordInfoField s index lo mask = .error st := by
  rw [recordInfoField, recordWord_error 0 h]

/-- RX_SIZE, RX_COMPLETE and RX_VERIFY raise what `require_frame` raises. -/
theorem exec_of_requireFrame_error (hreads : readsFrame i = true)
    (hcommand : commandAccessor i = false) (htelemetry : telemetryAccessor i = false)
    (h : requireFrame s = .error st) : exec i s = .next (answered s (notOk st)) := by
  cases i
  case rxSize => exact finish_error h
  case rxComplete => simp only [exec, execRxComplete, h, raise_eq]
  case rxVerify => simp only [exec, execRxVerify, h, raise_eq]
  all_goals
    simp only [readsFrame, commandAccessor, telemetryAccessor, reduceCtorEq]
      at hreads hcommand htelemetry

/-- A command accessor raises what `require_command` of its header end raises. -/
theorem exec_of_requireCommand_error (haccess : commandAccessor i = true)
    (hstop : headerEnd i = some stop) (h : requireCommand s stop = .error st) :
    exec i s = .next (answered s (notOk st)) := by
  cases i <;> cases hstop
  case cmdCommand | cmdAction | cmdDeviceId => exact finish_error (commandField_error h)
  case cmdIsAck => simp only [exec, execCmdIsAck, commandField_error h, raise_eq]
  case cmdIsNak => simp only [exec, execCmdIsNak, commandField_error h, raise_eq]
  case cmdPayload => simp only [exec, execCmdPayload, h, raise_eq]
  all_goals cases haccess

/-- A telemetry header accessor raises what `require_telemetry` of its header end raises. -/
theorem exec_of_requireTelemetry_error (haccess : telemetryAccessor i = true)
    (hstop : headerEnd i = some stop) (h : requireTelemetry s stop = .error st) :
    exec i s = .next (answered s (notOk st)) := by
  cases i <;> cases hstop
  case tlmDeviceId | tlmFrameCounter | tlmSensorCount => exact finish_error (telemetryField_error h)
  case tlmPayload => simp only [exec, execTlmPayload, h, raise_eq]
  all_goals cases haccess

/-- A well-formed record accessor raises what `resolve_record` of its index raises. -/
theorem exec_of_resolveRecord_error (hwf : WellFormed i = true)
    (hindex : recordIndex i = some index) (h : resolveRecord s index = .error st) :
    exec i s = .next (answered s (notOk st)) := by
  cases i <;> cases hindex
  case tlmSensorRecord => simp only [exec, execTlmSensorRecord, h, raise_eq]
  case srInfo => exact finish_error (recordWord_error 0 h)
  case srPosition k =>
    rw [exec, execSrPosition, if_pos (of_decide_eq_true hwf)]
    exact finish_error (recordWord_error _ h)
  case srOrientation k =>
    rw [exec, execSrOrientation, if_pos (of_decide_eq_true hwf)]
    exact finish_error (recordWord_error _ h)
  all_goals exact finish_error (recordInfoField_error _ _ h)

/-! ### Which guard an operation has -/

theorem headerEnd_of_commandAccessor (h : commandAccessor i = true) :
    ∃ stop, headerEnd i = some stop := by
  cases i
  case cmdCommand | cmdAction | cmdDeviceId | cmdIsAck | cmdIsNak | cmdPayload => exact ⟨_, rfl⟩
  all_goals cases h

theorem headerEnd_or_recordIndex_of_telemetryAccessor (h : telemetryAccessor i = true) :
    (∃ stop, headerEnd i = some stop) ∨ ∃ index, recordIndex i = some index := by
  cases i
  case tlmDeviceId | tlmFrameCounter | tlmSensorCount | tlmPayload => exact .inl ⟨_, rfl⟩
  case tlmSensorRecord | srInfo | srSensorNumber | srIsVirtual | srPositionUnits
      | srOrientationUnits | srButton0 | srButton1 | srDistortionLevel | srAuxInput | srPosition
      | srOrientation =>
    exact .inr ⟨_, rfl⟩
  all_goals cases h

/-- The operations with a header end that are of neither family need the FrameHeader. -/
theorem frameOperation_of_headerEnd (hcommand : commandAccessor i = false)
    (htelemetry : telemetryAccessor i = false) (hstop : headerEnd i = some stop) :
    readsFrame i = true ∧ stop = 8 := by
  cases i
  case rxSize | rxComplete | rxVerify => cases hstop; exact ⟨rfl, rfl⟩
  all_goals
    simp only [commandAccessor, telemetryAccessor, headerEnd, reduceCtorEq]
      at hcommand htelemetry hstop

theorem exec_commandAccessor_error (haccess : commandAccessor i = true)
    (h : ∀ stop, requireCommand s stop = .error st) : exec i s = .next (answered s (notOk st)) := by
  obtain ⟨stop, hstop⟩ := headerEnd_of_commandAccessor haccess
  exact exec_of_requireCommand_error haccess hstop (h stop)

theorem exec_telemetryAccessor_error (hwf : WellFormed i = true)
    (haccess : telemetryAccessor i = true) (h : ∀ stop, requireTelemetry s stop = .error st)
    (hr : ∀ index, resolveRecord s index = .error st) :
    exec i s = .next (answered s (notOk st)) := by
  obtain ⟨stop, hstop⟩ | ⟨index, hindex⟩ := headerEnd_or_recordIndex_of_telemetryAccessor haccess
  · exact exec_of_requireTelemetry_error haccess hstop (h stop)
  · exact exec_of_resolveRecord_error hwf hindex (hr index)

/-- A status that all four guards raise is what every frame operation answers. -/
theorem exec_readsFrame_error (hwf : WellFormed i = true) (hreads : readsFrame i = true)
    (hf : requireFrame s = .error st) (hc : ∀ stop, requireCommand s stop = .error st)
    (ht : ∀ stop, requireTelemetry s stop = .error st)
    (hr : ∀ index, resolveRecord s index = .error st) :
    exec i s = .next (answered s (notOk st)) := by
  cases hcommand : commandAccessor i with
  | true => exact exec_commandAccessor_error hcommand hc
  | false =>
    cases htelemetry : telemetryAccessor i with
    | true => exact exec_telemetryAccessor_error hwf htelemetry ht hr
    | false => exact exec_of_requireFrame_error hreads hcommand htelemetry hf

/-! ### What fails a guard -/

/-- On EMPTY every guard raises NA_EMPTY. -/
theorem exec_readsFrame_of_empty (hwf : WellFormed i = true) (hreads : readsFrame i = true)
    (hclass : s.rxClass = .empty) : exec i s = .next (answered s (notOk .naEmpty)) :=
  exec_readsFrame_error hwf hreads (by rw [requireFrame, hclass])
    (fun _ => by rw [requireCommand, hclass]) (fun _ => by rw [requireTelemetry, hclass])
    (fun _ => by rw [resolveRecord, hclass])

/-- On UNKNOWN every guard raises NA_UNKNOWN. -/
theorem exec_readsFrame_of_unknown (hwf : WellFormed i = true) (hreads : readsFrame i = true)
    (hclass : s.rxClass = .unknown) : exec i s = .next (answered s (notOk .naUnknown)) :=
  exec_readsFrame_error hwf hreads (by rw [requireFrame, hclass])
    (fun _ => by rw [requireCommand, hclass]) (fun _ => by rw [requireTelemetry, hclass])
    (fun _ => by rw [resolveRecord, hclass])

theorem requireFrame_truncated (hclass : s.rxClass = .command ∨ s.rxClass = .telemetry)
    (hshort : s.rxLen < 8) : requireFrame s = .error .naTruncated := by
  obtain hclass | hclass := hclass <;> simp only [requireFrame, hclass, if_pos hshort]

theorem requireCommand_truncated (hclass : s.rxClass = .command) (hshort : s.rxLen < stop) :
    requireCommand s stop = .error .naTruncated := by
  simp only [requireCommand, hclass, if_pos hshort]

theorem requireTelemetry_truncated (hclass : s.rxClass = .telemetry) (hshort : s.rxLen < stop) :
    requireTelemetry s stop = .error .naTruncated := by
  simp only [requireTelemetry, hclass, if_pos hshort]

/-- A record that is not wholly there, or not counted, fails one of `resolve_record`'s three
tests. -/
theorem resolveRecord_unreadable (hclass : s.rxClass = .telemetry)
    (h : s.rxLen < 24 ∨ leNat s.rxBuf 20 ≤ index.toNat ∨ s.rxLen < 24 + 32 * index.toNat + 32) :
    resolveRecord s index = .error .indexOutOfRange := by
  simp only [resolveRecord, hclass, rxWord_toNat, FH, TH, SR]
  by_cases hheader : s.rxLen < 8 + 16
  · rw [if_pos hheader]
  · by_cases hcount : index.toNat ≥ leNat s.rxBuf 20
    · rw [if_neg hheader, if_pos hcount]
    · rw [if_neg hheader, if_neg hcount, if_pos (by omega)]

end guards

/-- Settles O24: on EMPTY and UNKNOWN every guard raises the class's status, and a family's guards
raise NA_FAMILY on the other family. -/
theorem classDecidesNotApplicable : Obligations.ClassDecidesNotApplicable := by
  unfold Obligations.ClassDecidesNotApplicable
  intro i s hwf
  refine ⟨exec_readsFrame_of_empty hwf, exec_readsFrame_of_unknown hwf,
    fun haccess hclass => ?command, fun haccess hclass => ?telemetry⟩
  case command => exact exec_commandAccessor_error haccess fun _ => by rw [requireCommand, hclass]
  case telemetry =>
    exact exec_telemetryAccessor_error hwf haccess (fun _ => by rw [requireTelemetry, hclass])
      fun _ => by rw [resolveRecord, hclass]

/-- Settles O25: the family's guard where the operation is of the family, else `require_frame`. -/
theorem headerBeyondBufferIsTruncated : Obligations.HeaderBeyondBufferIsTruncated := by
  unfold Obligations.HeaderBeyondBufferIsTruncated
  rintro i stop s hstop hshort (⟨hclass, htelemetry⟩ | ⟨hclass, hcommand⟩)
  · cases hcommand : commandAccessor i with
    | true =>
      exact exec_of_requireCommand_error hcommand hstop (requireCommand_truncated hclass hshort)
    | false =>
      obtain ⟨hreads, rfl⟩ := frameOperation_of_headerEnd hcommand htelemetry hstop
      exact exec_of_requireFrame_error hreads hcommand htelemetry
        (requireFrame_truncated (.inl hclass) hshort)
  · cases htelemetry : telemetryAccessor i with
    | true =>
      exact exec_of_requireTelemetry_error htelemetry hstop
        (requireTelemetry_truncated hclass hshort)
    | false =>
      obtain ⟨hreads, rfl⟩ := frameOperation_of_headerEnd hcommand htelemetry hstop
      exact exec_of_requireFrame_error hreads hcommand htelemetry
        (requireFrame_truncated (.inr hclass) hshort)

/-- Settles O26: `resolve_record` raises it, and every record accessor with it. -/
theorem unreadableRecordIsOutOfRange : Obligations.UnreadableRecordIsOutOfRange := by
  unfold Obligations.UnreadableRecordIsOutOfRange
  intro i index s hwf hindex hclass hunreadable
  exact exec_of_resolveRecord_error hwf hindex (resolveRecord_unreadable hclass hunreadable)

/-- TX_LENGTH (R112). -/
theorem exec_txLength (s : State) : exec .txLength s
    = .next (answered s (okValue (lengthValue Config.reportedLengthBeyondWord s.txLen))) :=
  respondValue_eq s _

/-- A length that 32 bits hold is reported as it is (log 2). -/
theorem lengthValue_of_lt (beyond : Nat → Word) {n : Nat} (h : n < 2 ^ 32) :
    lengthValue beyond n = u32 n :=
  if_pos h

/-- Settles O34: the value is `u32` of the length where that is exact. -/
theorem lengthReportsValidBytes : Obligations.LengthReportsValidBytes := by
  unfold Obligations.LengthReportsValidBytes
  intro s
  refine ⟨_, fun hlt => ?_, exec_txLength s⟩
  rw [lengthValue_of_lt _ hlt, u32_toNat hlt]

/-- Settles O33: the first branch of R111. -/
theorem serializeNeedsBuiltFrame : Obligations.SerializeNeedsBuiltFrame := by
  unfold Obligations.SerializeNeedsBuiltFrame
  intro s hbuilt
  exact exec_txSerialize_unbuilt hbuilt

/-- Settles O52: what is visible of the state is R190's, so `crc` and `tx_len` are 0, nothing is
built, and the class is EMPTY. -/
theorem answersRightAfterReset : Obligations.AnswersRightAfterReset := by
  unfold Obligations.AnswersRightAfterReset
  intro s c hsame
  have hcrc : s.crc = 0 := hsame.crc.symm
  have hclass : s.rxClass = .empty := hsame.rxClass.symm
  have hbuilt : s.txBuilt = false := hsame.txBuilt.symm
  have hlen : s.txLen = 0 := hsame.txLen.symm
  refine ⟨?crcRead, exec_rxClassify_of_class hclass, ?txLength, exec_txSerialize_unbuilt hbuilt,
    fun i hwf hreads => exec_readsFrame_of_empty hwf hreads hclass⟩
  case crcRead =>
    rw [exec_crcRead, hcrc]
    rfl
  case txLength =>
    rw [exec_txLength, hlen, lengthValue_of_lt _ (by decide)]
    rfl

end Sys2Proof
end

section
/-! What the operations that read a frame answer once their guard has passed: the frame operations
(R125 to R127), the two families' accessors (R141 to R155) and the sensor-record view (R157 to
R168). -/

namespace Sys2Proof

open Sys2Proof.Machine Sys2Proof.Safety Sys2Proof.Laws

/-! ### Frame operations -/

theorem readBytes_eq_map (m : Memory) (off n : Nat) :
    Memory.readBytes m off n = (List.range n).map fun k => Memory.read m (off + k) := by
  apply List.ext_getElem (by simp)
  intro k hk _
  simp [readBytes_getElem hk]

theorem readBytes_zero_eq_map (m : Memory) (n : Nat) :
    Memory.readBytes m 0 n = (List.range n).map (Memory.read m) := by
  simp only [readBytes_eq_map, Nat.zero_add]

/-- Zero extension keeps a checksum's value (R127). -/
theorem setWidth_half_toNat (c : Half) : (c.setWidth 32).toNat = c.toNat :=
  BitVec.toNat_setWidth_of_le (by decide)

section frame
variable {s : State} (hclass : s.rxClass = .command ∨ s.rxClass = .telemetry)
  (hheader : 8 ≤ s.rxLen)
include hclass hheader

theorem exec_rxSize_ok : exec .rxSize s = .next (answered s (okValue (rxWord s 4))) :=
  finish_ok (requireFrame_ok hclass hheader)

theorem exec_rxComplete_ok : exec .rxComplete s
    = .next (answered s (okValue (if 8 + leNat s.rxBuf 4 ≤ s.rxLen then 1 else 0))) := by
  simp only [exec, execRxComplete, requireFrame_ok hclass hheader, respondValue_eq, boolWord,
    rxWord_toNat, decide_eq_true_eq, FH]

theorem exec_rxVerify_truncated (h : leNat s.rxBuf 4 < 4 ∨ s.rxLen < 8 + leNat s.rxBuf 4) :
    exec .rxVerify s = .next (answered s (notOk .naTruncated)) := by
  simp only [exec, execRxVerify, requireFrame_ok hclass hheader, rxWord_toNat]
  exact if_pos h

/-- RX_VERIFY of a whole frame compares the field that ends it with the checksum of the rest. -/
theorem exec_rxVerify_whole (hfield : 4 ≤ leNat s.rxBuf 4)
    (hwhole : 8 + leNat s.rxBuf 4 ≤ s.rxLen) :
    exec .rxVerify s = .next (answered s
      (if leNat s.rxBuf (4 + leNat s.rxBuf 4)
          = (checksum (Memory.readBytes s.rxBuf 0 (4 + leNat s.rxBuf 4))).toNat
        then okValue 1 else notOk .checksumMismatch)) := by
  have hend : FH + leNat s.rxBuf 4 - CKW = 4 + leNat s.rxBuf 4 := by simp only [FH, CKW]; omega
  have hnot : ¬ (leNat s.rxBuf 4 < CKW ∨ FH + leNat s.rxBuf 4 > s.rxLen) := by
    simp only [FH, CKW]; omega
  simp only [exec, execRxVerify, requireFrame_ok hclass hheader, rxWord_toNat, if_neg hnot, hend]
  simp only [rxWord, readWord_eq_iff, setWidth_half_toNat, respondValue_eq, raise_eq]
  split <;> rfl

end frame

/-- Settles O41: both answer from the `size` word that `require_frame` gives. -/
theorem sizeAndCompleteResults : Obligations.SizeAndCompleteResults := by
  unfold Obligations.SizeAndCompleteResults
  intro s hclass hheader
  exact ⟨rxWord s 4, rxWord_toNat s 4, exec_rxSize_ok hclass hheader,
    exec_rxComplete_ok hclass hheader⟩

/-- Settles O42: the two branches of R127, the bytes before the field read one by one. -/
theorem verifyComparesTrailingChecksum : Obligations.VerifyComparesTrailingChecksum := by
  unfold Obligations.VerifyComparesTrailingChecksum
  intro s hclass hheader
  refine ⟨exec_rxVerify_truncated hclass hheader, fun hfield hwhole => ?_⟩
  rw [← readBytes_zero_eq_map]
  exact exec_rxVerify_whole hclass hheader hfield hwhole

/-! ### Command accessors -/

/-- Settles O43: each is the word at its field's offset. -/
theorem commandHeaderFields : Obligations.CommandHeaderFields := by
  unfold Obligations.CommandHeaderFields
  intro s hclass
  exact ⟨fun h => ⟨_, rxWord_toNat s 12, finish_ok (commandField_ok hclass h)⟩,
    fun h => ⟨_, rxWord_toNat s 16, finish_ok (commandField_ok hclass h)⟩,
    fun h => ⟨_, rxWord_toNat s 8, finish_ok (commandField_ok hclass h)⟩⟩

/-- A comparison of words as a boolean result (R11). -/
theorem boolWord_beq (a b : Word) : boolWord (a == b) = if a.toNat = b.toNat then 1 else 0 := by
  simp only [boolWord, beq_iff_eq, BitVec.toNat_inj]

/-- Settles O44: each compares the action word with its code of R68. -/
theorem ackAndNakTests : Obligations.AckAndNakTests := by
  unfold Obligations.AckAndNakTests
  intro s hclass hfield
  have haction : commandField s 16 = .ok (rxWord s 16) := commandField_ok hclass hfield
  constructor
  · simp only [exec, execCmdIsAck, haction, respondValue_eq, boolWord_beq, rxWord_toNat]
    rfl
  · simp only [exec, execCmdIsNak, haction, respondValue_eq, boolWord_beq, rxWord_toNat]
    rfl

/-! ### Payload slices (R146, R154) -/

section payload
variable {s : State} {off less : Nat}

theorem payloadSlice_empty (h : leNat s.rxBuf 4 ≤ less) :
    payloadSlice s off less = respondSlice s 0 off 0 := by
  simp only [payloadSlice, payloadLength, rxWord_toNat]
  exact if_pos (by omega)

theorem payloadSlice_truncated (hmore : less < leNat s.rxBuf 4)
    (hlong : s.rxLen < off + (leNat s.rxBuf 4 - less)) :
    payloadSlice s off less = .next (answered s (notOk .naTruncated)) := by
  simp only [payloadSlice, payloadLength, rxWord_toNat]
  rw [if_neg (by omega), if_pos (by omega), raise_eq]

/-- A payload of `n` bytes that lies in the buffer; `n` may be 0. -/
theorem payloadSlice_whole {n : Nat} (hsize : leNat s.rxBuf 4 = less + n)
    (hwhole : off + n ≤ s.rxLen) :
    payloadSlice s off less = respondSlice s (u32 n) off n := by
  obtain rfl | hpos := Nat.eq_zero_or_pos n
  · exact payloadSlice_empty (Nat.le_of_eq hsize)
  · have hlen : ((leNat s.rxBuf 4 : Int) - (less : Int)).toNat = n := by omega
    simp only [payloadSlice, payloadLength, rxWord_toNat]
    rw [if_neg (by omega), if_neg (by omega), hlen]

/-- The three branches of the slice rule; a slice begins 4 bytes past what `size` counts beside
it. -/
theorem payloadSlice_cases (s : State) (less : Nat) :
    (leNat s.rxBuf 4 ≤ less → ∃ sls, (∀ sl, sl ∈ sls ↔ sl = ⟨4 + less, 0⟩ ∨ sl ∈ s.slices)
      ∧ payloadSlice s (4 + less) less
          = .next { answered s ⟨.ok, 0, u32 (4 + less), 0⟩ with slices := sls })
    ∧ (less < leNat s.rxBuf 4 → s.rxLen < 4 + leNat s.rxBuf 4 →
      payloadSlice s (4 + less) less = .next (answered s (notOk .naTruncated)))
    ∧ (less < leNat s.rxBuf 4 → 4 + leNat s.rxBuf 4 ≤ s.rxLen →
      ∃ len sls, len.toNat = leNat s.rxBuf 4 - less
        ∧ (∀ sl, sl ∈ sls ↔ sl = ⟨4 + less, leNat s.rxBuf 4 - less⟩ ∨ sl ∈ s.slices)
        ∧ payloadSlice s (4 + less) less
            = .next { answered s ⟨.ok, len, u32 (4 + less), len⟩ with slices := sls }) := by
  refine ⟨fun hempty => ?empty, fun hmore hlong => ?truncated, fun hmore hwhole => ?whole⟩
  case empty => exact ⟨_, mem_grant s _, payloadSlice_empty hempty⟩
  case truncated => exact payloadSlice_truncated hmore (by omega)
  case whole =>
    have hlt := leNat_lt s.rxBuf 4
    exact ⟨_, _, u32_toNat (by omega), mem_grant s _, payloadSlice_whole (by omega) (by omega)⟩

end payload

theorem exec_cmdPayload_of_header {s : State} (hclass : s.rxClass = .command)
    (hheader : 8 ≤ s.rxLen) :
    exec .cmdPayload s = payloadSlice s 28 24 := by
  have hguard : requireCommand s 8 = .ok () := by
    simp only [requireCommand, hclass, if_neg (Nat.not_lt.2 hheader)]
  simp only [exec, execCmdPayload, hguard, FH, CH, CKW, Nat.reduceAdd]

theorem exec_tlmPayload_of_header {s : State} (hclass : s.rxClass = .telemetry)
    (hheader : 8 ≤ s.rxLen) : exec .tlmPayload s = payloadSlice s 8 4 := by
  have hguard : requireTelemetry s 8 = .ok () := by
    simp only [requireTelemetry, hclass, if_neg (Nat.not_lt.2 hheader)]
  simp only [exec, execTlmPayload, hguard]

/-- Settles O45: the three branches of the slice rule, from offset 28 where `size` counts 24 bytes
beside the payload. -/
theorem commandPayloadSlice : Obligations.CommandPayloadSlice := by
  unfold Obligations.CommandPayloadSlice
  intro s hclass hheader
  rw [exec_cmdPayload_of_header hclass hheader]
  exact payloadSlice_cases s 24

/-! ### Telemetry accessors -/

/-- Settles O46: each is the word at its field's offset. -/
theorem telemetryHeaderFields : Obligations.TelemetryHeaderFields := by
  unfold Obligations.TelemetryHeaderFields
  intro s hclass
  exact ⟨fun h => ⟨_, rxWord_toNat s 8, finish_ok (telemetryField_ok hclass h)⟩,
    fun h => ⟨_, rxWord_toNat s 12, finish_ok (telemetryField_ok hclass h)⟩,
    fun h => ⟨_, rxWord_toNat s 20, finish_ok (telemetryField_ok hclass h)⟩⟩

/-- Settles O47: the three branches of the slice rule, from offset 8, where `size` counts 4 bytes
beside the payload. -/
theorem telemetryPayloadSlice : Obligations.TelemetryPayloadSlice := by
  unfold Obligations.TelemetryPayloadSlice
  intro s hclass hheader
  rw [exec_tlmPayload_of_header hclass hheader]
  exact payloadSlice_cases s 4

/-- TLM_SENSOR_RECORD of a readable record names its 32 bytes (R155). -/
theorem exec_tlmSensorRecord_ok {s : State} {index : Word} (h : RecordReadable s index) :
    exec (.tlmSensorRecord index) s
      = respondSlice s (u32 (24 + 32 * index.toNat)) (24 + 32 * index.toNat) 32 := by
  simp only [exec, execTlmSensorRecord, resolveRecord_ok h]

/-- Settles O48: the record lies below `rx_len`, so its offset is exact as a word. -/
theorem sensorRecordSlice : Obligations.SensorRecordSlice := by
  unfold Obligations.SensorRecordSlice
  intro s index hreadable hword
  have hin := hreadable.inBuffer
  exact ⟨_, _, u32_toNat (by omega), mem_grant s _, exec_tlmSensorRecord_ok hreadable⟩

/-! ### The sensor-record view -/

/-- `(w >> lo) & mask` is a range of bits of `w`, where the mask is all ones (R67). -/
theorem shift_and_mask_toNat (w : Word) (lo : Nat) {width : Nat} {mask : Word}
    (hmask : mask.toNat = 2 ^ width - 1) :
    ((w >>> lo) &&& mask).toNat = w.toNat / 2 ^ lo % 2 ^ width := by
  rw [BitVec.toNat_and, hmask, Nat.and_two_pow_sub_one_eq_mod, BitVec.toNat_ushiftRight,
    Nat.shiftRight_eq_div_pow]

/-- What an operation on a field of the info word answers, for a readable record. -/
theorem infoField_answer {s : State} {index : Word} (hreadable : RecordReadable s index) {i : Instr}
    {lo width : Nat} {mask : Word} (hexec : exec i s = finish s (recordInfoField s index lo mask))
    (hmask : mask.toNat = 2 ^ width - 1) :
    ∃ v : Word, v.toNat = leNat s.rxBuf (24 + 32 * index.toNat) / 2 ^ lo % 2 ^ width
      ∧ exec i s = .next (answered s (okValue v)) := by
  refine ⟨_, ?_, hexec.trans (finish_ok (recordInfoField_ok lo mask hreadable))⟩
  rw [shift_and_mask_toNat _ lo hmask, rxWord_toNat]

/-- SR_INFO answers all 32 bits of the info word (R157). -/
theorem srInfo_answer {s : State} {index : Word} (hreadable : RecordReadable s index) :
    ∃ v : Word, v.toNat = leNat s.rxBuf (24 + 32 * index.toNat) / 2 ^ 0 % 2 ^ 32
      ∧ exec (.srInfo index) s = .next (answered s (okValue v)) := by
  refine ⟨_, ?_, finish_ok (recordWord_ok 0 hreadable)⟩
  rw [rxWord_toNat, Nat.add_zero, Nat.pow_zero, Nat.div_one, Nat.mod_eq_of_lt (leNat_lt _ _)]

/-- Settles O49: R67's table, a row at a time. -/
theorem sensorInfoFields : Obligations.SensorInfoFields := by
  unfold Obligations.SensorInfoFields
  intro s index hreadable i lo width hrow
  simp only [List.mem_cons, List.not_mem_nil, or_false, Prod.mk.injEq] at hrow
  obtain ⟨rfl, rfl, rfl⟩ | hrow := hrow
  · exact srInfo_answer hreadable
  · obtain ⟨rfl, rfl, rfl⟩ | ⟨rfl, rfl, rfl⟩ | ⟨rfl, rfl, rfl⟩ | ⟨rfl, rfl, rfl⟩ | ⟨rfl, rfl, rfl⟩
      | ⟨rfl, rfl, rfl⟩ | ⟨rfl, rfl, rfl⟩ | ⟨rfl, rfl, rfl⟩ := hrow <;>
    exact infoField_answer hreadable rfl rfl

/-- SR_POSITION of a component the view has (R166). -/
theorem exec_srPosition_ok {s : State} {index : Word} {k : Byte} (h : RecordReadable s index)
    (hk : k.toNat ≤ 2) : exec (.srPosition index k) s
      = .next (answered s (okValue (rxWord s (24 + 32 * index.toNat + (4 + 4 * k.toNat))))) := by
  rw [exec, execSrPosition, if_pos hk]
  exact finish_ok (recordWord_ok _ h)

/-- SR_ORIENTATION of a component the view has (R167). -/
theorem exec_srOrientation_ok {s : State} {index : Word} {k : Byte} (h : RecordReadable s index)
    (hk : k.toNat ≤ 3) : exec (.srOrientation index k) s
      = .next (answered s (okValue (rxWord s (24 + 32 * index.toNat + (16 + 4 * k.toNat))))) := by
  rw [exec, execSrOrientation, if_pos hk]
  exact finish_ok (recordWord_ok _ h)

/-- Settles O50: a component the view has is a word of the record; another fails the first test. -/
theorem poseComponents : Obligations.PoseComponents := by
  unfold Obligations.PoseComponents
  intro s index k
  refine ⟨fun hreadable hk => ⟨_, ?position, exec_srPosition_ok hreadable hk⟩,
    fun hreadable hk => ⟨_, ?orientation, exec_srOrientation_ok hreadable hk⟩,
    fun hk => ?noPosition, fun hk => ?noOrientation⟩
  case position => rw [rxWord_toNat, ← Nat.add_assoc]
  case orientation => rw [rxWord_toNat, ← Nat.add_assoc]
  case noPosition => rw [exec, execSrPosition, if_neg (Nat.not_le.2 hk), raise_eq]
  case noOrientation => rw [exec, execSrOrientation, if_neg (Nat.not_le.2 hk), raise_eq]

end Sys2Proof
end

section
/-! Two states with the same visible elements: what an operation reads is the same in both, so a
host cannot tell them apart (R23, R47), and an operation that reads answers the same twice (R45). -/

namespace Sys2Proof

open Sys2Proof.Machine Sys2Proof.Safety Sys2Proof.Laws

/-! ### What an operation that reads can see -/

/-- Two states with the same of everything an operation that reads looks at. -/
structure SameRead (a b : State) : Prop where
  crc : a.crc = b.crc
  rxLen : a.rxLen = b.rxLen
  rxClass : a.rxClass = b.rxClass
  rxBytes : ∀ i, i < a.rxLen → Memory.read a.rxBuf i = Memory.read b.rxBuf i
  txLen : a.txLen = b.txLen

/-- Two results that end alike: with one response that names no slice, or with one slice. -/
def SameAnswer (a b : State) (x y : Result) : Prop :=
  (∃ r, x = .next (answered a r) ∧ y = .next (answered b r))
  ∨ ∃ v off len, x = respondSlice a v off len ∧ y = respondSlice b v off len

section sameRead
variable {a b : State}

theorem sameAnswer_response {r r' : Response} (h : r = r') :
    SameAnswer a b (.next (answered a r)) (.next (answered b r')) :=
  .inl ⟨r, rfl, by rw [h]⟩

theorem sameAnswer_raise (st : Status) : SameAnswer a b (raise a st) (raise b st) :=
  sameAnswer_response rfl

theorem sameAnswer_value {v v' : Word} (h : v = v') :
    SameAnswer a b (respondValue a v) (respondValue b v') :=
  sameAnswer_response (by rw [h])

theorem sameAnswer_finish {e e' : Except Status Word} (h : e = e') :
    SameAnswer a b (finish a e) (finish b e') := by
  subst h
  cases e with
  | ok v => exact sameAnswer_value rfl
  | error st => exact sameAnswer_raise st

/-! ### Guards and fields -/

theorem requireCommand_ok_le {s : State} {stop : Nat} {x : Unit}
    (h : requireCommand s stop = .ok x) :
    stop ≤ s.rxLen := by
  unfold requireCommand at h
  split at h
  · cases h
  · cases h
  · cases h
  · split at h
    · cases h
    · omega

theorem requireTelemetry_ok_le {s : State} {stop : Nat} {x : Unit}
    (h : requireTelemetry s stop = .ok x) : stop ≤ s.rxLen := by
  unfold requireTelemetry at h
  split at h
  · cases h
  · cases h
  · cases h
  · split at h
    · cases h
    · omega

variable (h : SameRead a b)
include h

theorem SameRead.rxWord_eq {off : Nat} (hin : off + 4 ≤ a.rxLen) : rxWord a off = rxWord b off :=
  readWord_congr fun i hi => h.rxBytes (off + i) (by omega)

theorem SameRead.requireFrame_eq : requireFrame a = requireFrame b := by
  unfold requireFrame
  rw [← h.rxClass, ← h.rxLen]
  by_cases hshort : a.rxLen < FH
  · simp only [if_pos hshort]
  · simp only [if_neg hshort, h.rxWord_eq (off := 4) (Nat.not_lt.1 hshort)]

theorem SameRead.requireCommand_eq (stop : Nat) :
    requireCommand a stop = requireCommand b stop := by
  simp only [requireCommand, h.rxClass, h.rxLen]

theorem SameRead.requireTelemetry_eq (stop : Nat) :
    requireTelemetry a stop = requireTelemetry b stop := by
  simp only [requireTelemetry, h.rxClass, h.rxLen]

theorem SameRead.commandField_eq (off : Nat) : commandField a off = commandField b off := by
  unfold commandField
  rw [← h.requireCommand_eq]
  cases hguard : requireCommand a (off + 4) with
  | error st => rfl
  | ok x => simp only [h.rxWord_eq (requireCommand_ok_le hguard)]

theorem SameRead.telemetryField_eq (off : Nat) : telemetryField a off = telemetryField b off := by
  unfold telemetryField
  rw [← h.requireTelemetry_eq]
  cases hguard : requireTelemetry a (off + 4) with
  | error st => rfl
  | ok x => simp only [h.rxWord_eq (requireTelemetry_ok_le hguard)]

theorem SameRead.resolveRecord_eq (index : Word) :
    resolveRecord a index = resolveRecord b index := by
  unfold resolveRecord
  rw [← h.rxClass, ← h.rxLen]
  by_cases hshort : a.rxLen < FH + TH
  · simp only [if_pos hshort]
  · simp only [if_neg hshort, h.rxWord_eq (off := 20) (Nat.not_lt.1 hshort)]

theorem SameRead.recordWord_eq (index : Word) {off : Nat} (hoff : off + 4 ≤ 32) :
    recordWord a index off = recordWord b index off := by
  unfold recordWord
  rw [← h.resolveRecord_eq]
  cases hrecord : resolveRecord a index with
  | error st => rfl
  | ok base =>
    obtain ⟨hreadable, rfl⟩ := resolveRecord_eq_ok hrecord
    have hin := hreadable.inBuffer
    simp only [h.rxWord_eq (off := 24 + 32 * index.toNat + off) (by omega)]

theorem SameRead.recordInfoField_eq (index : Word) (lo : Nat) (mask : Word) :
    recordInfoField a index lo mask = recordInfoField b index lo mask := by
  unfold recordInfoField
  rw [h.recordWord_eq index (off := 0) (by decide)]

theorem SameRead.sameAnswer_payloadSlice (off less : Nat) (hheader : 8 ≤ a.rxLen) :
    SameAnswer a b (payloadSlice a off less) (payloadSlice b off less) := by
  unfold payloadSlice payloadLength
  rw [← h.rxWord_eq (off := 4) hheader, ← h.rxLen]
  simp only
  split
  · exact .inr ⟨_, _, _, rfl, rfl⟩
  · split
    · exact sameAnswer_raise _
    · exact .inr ⟨_, _, _, rfl, rfl⟩

theorem SameRead.sameAnswer_rxVerify : SameAnswer a b (execRxVerify a) (execRxVerify b) := by
  unfold execRxVerify
  rw [← h.requireFrame_eq]
  cases hframe : requireFrame a with
  | error st => exact sameAnswer_raise st
  | ok size =>
    simp only [← h.rxLen]
    split
    · exact sameAnswer_raise _
    · next hwhole =>
      simp only [FH, CKW] at hwhole ⊢
      have hfield : rxWord a (8 + size.toNat - 4) = rxWord b (8 + size.toNat - 4) :=
        h.rxWord_eq (by omega)
      have hbytes : Memory.readBytes a.rxBuf 0 (8 + size.toNat - 4)
          = Memory.readBytes b.rxBuf 0 (8 + size.toNat - 4) :=
        readBytes_congr fun i hi => h.rxBytes (0 + i) (by omega)
      rw [hfield, hbytes]
      split
      · exact sameAnswer_value rfl
      · exact sameAnswer_raise _

/-- An operation that reads ends alike in two states that it sees alike. -/
theorem SameRead.exec_reads {i : Instr} (hreads : readsOnly i = true) :
    SameAnswer a b (exec i a) (exec i b) := by
  cases i <;> simp only [readsOnly, Bool.false_eq_true] at hreads <;> simp only [exec]
  case crcRead => exact sameAnswer_value (by rw [h.crc])
  case txLength => exact sameAnswer_value (by rw [h.txLen])
  case rxClassify => exact sameAnswer_value (by rw [h.rxClass])
  case rxSize => exact sameAnswer_finish h.requireFrame_eq
  case rxComplete =>
    unfold execRxComplete
    rw [← h.requireFrame_eq, ← h.rxLen]
    split
    · exact sameAnswer_raise _
    · exact sameAnswer_value rfl
  case rxVerify => exact h.sameAnswer_rxVerify
  case cmdCommand | cmdAction | cmdDeviceId => exact sameAnswer_finish (h.commandField_eq _)
  case cmdIsAck =>
    unfold execCmdIsAck
    rw [← h.commandField_eq]
    split
    · exact sameAnswer_raise _
    · exact sameAnswer_value rfl
  case cmdIsNak =>
    unfold execCmdIsNak
    rw [← h.commandField_eq]
    split
    · exact sameAnswer_raise _
    · exact sameAnswer_value rfl
  case cmdPayload =>
    unfold execCmdPayload
    rw [← h.requireCommand_eq]
    split
    · exact sameAnswer_raise _
    · next hguard => exact h.sameAnswer_payloadSlice _ _ (requireCommand_ok_le hguard)
  case tlmDeviceId | tlmFrameCounter | tlmSensorCount =>
    exact sameAnswer_finish (h.telemetryField_eq _)
  case tlmPayload =>
    unfold execTlmPayload
    rw [← h.requireTelemetry_eq]
    split
    · exact sameAnswer_raise _
    · next hguard => exact h.sameAnswer_payloadSlice _ _ (requireTelemetry_ok_le hguard)
  case tlmSensorRecord index =>
    unfold execTlmSensorRecord
    rw [← h.resolveRecord_eq]
    split
    · exact sameAnswer_raise _
    · exact .inr ⟨_, _, _, rfl, rfl⟩
  case srInfo index => exact sameAnswer_finish (h.recordWord_eq index (by decide))
  case srPosition index k =>
    unfold execSrPosition
    split
    · exact sameAnswer_finish (h.recordWord_eq index (by omega))
    · exact sameAnswer_raise _
  case srOrientation index k =>
    unfold execSrOrientation
    split
    · exact sameAnswer_finish (h.recordWord_eq index (by omega))
    · exact sameAnswer_raise _
  all_goals exact sameAnswer_finish (h.recordInfoField_eq _ _ _)

end sameRead

/-! ### The same operation twice (R45) -/

/-- Settles O16: by O15 the operation sees after it what it saw before, so it ends alike; a slice is
granted once. -/
theorem readingOperationsAreIdempotent : Obligations.ReadingOperationsAreIdempotent := by
  unfold Obligations.ReadingOperationsAreIdempotent
  intro i s t r hreads hexec hr
  have hsame : SameRead s t := by
    obtain ⟨r', sls, hexec', -⟩ := readingOperationsWriteNothing i s hreads
    obtain rfl := Host.Outcome.next.inj (hexec.symm.trans hexec')
    exact ⟨rfl, rfl, rfl, fun _ _ => rfl, rfl⟩
  obtain ⟨r', hfirst, hsecond⟩ | ⟨v, off, len, hfirst, hsecond⟩ := hsame.exec_reads hreads
  · obtain rfl := Host.Outcome.next.inj (hexec.symm.trans hfirst)
    obtain rfl : r' = r := by simpa using hr
    exact hsecond
  · have ht : t = answered (s.grant ⟨off, len⟩) ⟨.ok, v, u32 off, u32 len⟩ :=
      Host.Outcome.next.inj (hexec.symm.trans hfirst)
    have hresponse : ⟨.ok, v, u32 off, u32 len⟩ = r := by simpa [ht] using hr
    have hheld : ⟨off, len⟩ ∈ t.slices := by
      rw [ht, answered_slices, mem_grant]
      exact .inl rfl
    rw [hsecond, respondSlice, grant_of_mem hheld, hresponse, respond_eq]

/-- Serialising again writes what is there. -/
theorem Safety.BlockInv.storeTx_frameBytes {s : State} (h : BlockInv s) (hready : s.txLen ≠ 0) :
    s.storeTx (frameBytes s) = s := by
  have hbytes := h.txReadyBytes hready
  have hlen : (frameBytes s).length = s.txLen := by rw [← hbytes, readBytes_length]
  have hbuf : Memory.writeBytes s.txBuf 0 (frameBytes s) = s.txBuf :=
    writeBytes_same h.txCanonical (by rw [hlen, hbytes])
  rw [State.storeTx, hbuf, hlen]

/-- Settles O17: the first leaves the frame it latched in the buffer, and the second writes the same
bytes over it. -/
theorem serializeTwiceGivesTheSameBytes : Obligations.SerializeTwiceGivesTheSameBytes := by
  unfold Obligations.SerializeTwiceGivesTheSameBytes
  intro s t r hinv hexec hr
  obtain ⟨u, heffect, rfl⟩ := effect_of_response hexec hr
  have hinv' : BlockInv (answered u r) := (heffect.keeps_blockInv hinv nofun).emit _
  cases heffect with
  | unbuilt hbuilt => exact exec_txSerialize_unbuilt hbuilt
  | store hbuilt hframe =>
    rw [exec_txSerialize_built (by simpa using hbuilt),
      hinv'.storeTx_frameBytes (by simp [hframe])]
    simp [hframe]
  | value hreads | slice _ _ _ hreads => cases hreads
  | load hload | overflow hload => cases hload

/-! ### Updates of states with the same visible elements -/

section sameVisible
variable {a b : State}

theorem sameRead_of_sameVisible (h : SameVisible a b) : SameRead a b :=
  ⟨h.crc, h.rxLen, h.rxClass, h.rxBytes, h.txLen⟩

variable (h : SameVisible a b)
include h

theorem Safety.SameVisible.withInputs (rest : List Input) :
    SameVisible { a with inputs := rest } { b with inputs := rest } :=
  { h with inputs := rfl }

theorem Safety.SameVisible.emit {o o' : Output} (ho : o = o') :
    SameVisible (a.emit o) (b.emit o') :=
  { h with outputs := by rw [emit_outputs, emit_outputs, h.outputs, ho] }

theorem Safety.SameVisible.answered (r : Response) : SameVisible (answered a r) (answered b r) :=
  h.emit rfl

theorem Safety.SameVisible.setCrc {c c' : Half} (hc : c = c') :
    SameVisible (a.setCrc c) (b.setCrc c') :=
  { h with crc := hc }

theorem Safety.SameVisible.grant (sl : Slice) : SameVisible (a.grant sl) (b.grant sl) :=
  { h with slices := by rw [grant_slices, grant_slices, h.slices] }

theorem Safety.SameVisible.dropRx : SameVisible a.dropRx b.dropRx :=
  { h with
    rxLen := rfl
    rxPresent := rfl
    rxClass := rfl
    rxBytes := nofun
    slices := rfl }

theorem Safety.SameVisible.loadRx (bs : List Byte) (ha : Memory.wf a.rxBuf = true)
    (hb : Memory.wf b.rxBuf = true) : SameVisible (a.loadRx bs) (b.loadRx bs) :=
  { h with
    rxLen := rfl
    rxPresent := rfl
    rxClass := by rw [loadRx_rxClass, loadRx_rxClass, classify_loaded ha, classify_loaded hb]
    rxBytes := fun i hi => by
      have hin : i < bs.length := hi
      have hra := read_writeBytes_inside (off := 0) ha hin
      have hrb := read_writeBytes_inside (off := 0) hb hin
      rw [Nat.zero_add] at hra hrb
      exact hra.trans hrb.symm
    slices := rfl }

theorem Safety.SameVisible.discardTx : SameVisible a.discardTx b.discardTx :=
  { h with
    txBuilt := rfl
    txFrame := nofun
    txLen := rfl
    txBytes := nofun }

theorem Safety.SameVisible.latchTx (dev cmd act arg1 arg2 size : Word) (pl : List Byte) :
    SameVisible (a.latchTx dev cmd act arg1 arg2 size pl)
      (b.latchTx dev cmd act arg1 arg2 size pl) :=
  { h with
    txBuilt := rfl
    txFrame := fun _ => ⟨rfl, rfl, rfl, rfl, rfl, rfl, rfl⟩
    txLen := rfl
    txBytes := nofun }

theorem Safety.SameVisible.frameBytes_eq (hbuilt : a.txBuilt = true) :
    frameBytes a = frameBytes b := by
  obtain ⟨hdev, hcmd, hact, harg1, harg2, hsize, hpl⟩ := h.txFrame hbuilt
  exact frameBytes_congr hsize hdev hcmd hact harg1 harg2 hpl

theorem Safety.SameVisible.storeTx (frame : List Byte) (ha : Memory.wf a.txBuf = true)
    (hb : Memory.wf b.txBuf = true) : SameVisible (a.storeTx frame) (b.storeTx frame) :=
  { h with
    txLen := rfl
    txBytes := fun i hi => by
      have hin : i < frame.length := hi
      have hra := read_writeBytes_inside (off := 0) ha hin
      have hrb := read_writeBytes_inside (off := 0) hb hin
      rw [Nat.zero_add] at hra hrb
      exact hra.trans hrb.symm }

theorem Safety.SameVisible.resetEvent : SameVisible (resetEvent a) (resetEvent b) where
  cfg := h.cfg
  crc := rfl
  rxLen := rfl
  rxPresent := rfl
  rxClass := rfl
  rxBytes := nofun
  txBuilt := rfl
  txFrame := nofun
  txLen := rfl
  txBytes := nofun
  inputs := h.inputs
  outputs := rfl
  slices := rfl

/-! ### Steps of states with the same visible elements -/

theorem Safety.SameVisible.of_sameAnswer {x y : Result} (hxy : SameAnswer a b x y) :
    SameOutcome x y := by
  obtain ⟨r, rfl, rfl⟩ | ⟨v, off, len, rfl, rfl⟩ := hxy
  · exact h.answered r
  · exact (h.grant _).answered _

variable (ha : BlockInv a) (hb : BlockInv b)
include ha hb

theorem Safety.SameVisible.exec (i : Instr) : SameOutcome (exec i a) (exec i b) := by
  induction i using instr_kinds with
  | reads i hreads => exact h.of_sameAnswer ((sameRead_of_sameVisible h).exec_reads hreads)
  | loads i bs hload =>
    rw [exec_loads a hload, exec_loads b hload]
    obtain hfits | hlong := le_or_gt bs.length a.cfg.rxBufBytes
    · have hloaded := h.loadRx bs ha.rxCanonical hb.rxCanonical
      rw [loadBuffer_fits hfits, loadBuffer_fits (h.cfg ▸ hfits), hloaded.rxClass]
      exact hloaded.answered _
    · rw [loadBuffer_oversized hlong, loadBuffer_oversized (h.cfg ▸ hlong)]
      exact h.dropRx.answered _
  | clear => exact (h.setCrc rfl).answered _
  | byte c => exact (h.setCrc (by rw [h.crc])).answered _
  | build dev cmd act arg1 arg2 payload =>
    by_cases hfits : PayloadFits a.cfg (keptPayload act payload).length
    · rw [exec_txBuild_fits _ _ _ _ _ hfits, exec_txBuild_fits _ _ _ _ _ (h.cfg ▸ hfits)]
      exact (h.latchTx _ _ _ _ _ _ _).answered _
    · rw [exec_txBuild_oversized _ _ _ _ _ hfits, exec_txBuild_oversized _ _ _ _ _ (h.cfg ▸ hfits)]
      exact h.discardTx.answered _
  | serialize =>
    cases hbuilt : a.txBuilt with
    | false =>
      rw [exec_txSerialize_unbuilt hbuilt, exec_txSerialize_unbuilt (h.txBuilt ▸ hbuilt)]
      exact h.answered _
    | true =>
      rw [exec_txSerialize_built hbuilt, exec_txSerialize_built (h.txBuilt ▸ hbuilt),
        h.frameBytes_eq hbuilt]
      exact (h.storeTx _ ha.txCanonical hb.txCanonical).answered _
  | release => exact h.dropRx.answered _

end sameVisible

/-! ### The host's reads -/

/-- A read of RX that a slice covers lies in the valid bytes, or is of no bytes (R46). -/
theorem Safety.BlockInv.covered_valid {s : State} (h : BlockInv s) {sl : Slice} {off n : Nat}
    (hheld : sl ∈ s.slices) (hcovers : sl.covers off n = true) : n = 0 ∨ off + n ≤ s.rxLen := by
  simp only [Slice.covers, Bool.and_eq_true, decide_eq_true_eq] at hcovers
  obtain ⟨hlo, hhi⟩ := hcovers
  obtain hempty | hvalid := h.slicesValid sl hheld
  · exact .inl (by omega)
  · exact .inr (by omega)

theorem Safety.SameVisible.hostReadRx {a b : State} (h : SameVisible a b) (ha : BlockInv a)
    (off n : Nat) : SameOutcome (hostReadRx off n a) (hostReadRx off n b) := by
  unfold Machine.hostReadRx
  rw [← h.cfg, ← h.slices]
  split
  · rfl
  · split
    · next hheld =>
      obtain ⟨sl, hsl, hcovers⟩ := List.any_eq_true.1 hheld
      have hbytes : Memory.readBytes a.rxBuf off n = Memory.readBytes b.rxBuf off n :=
        readBytes_congr fun i hi => h.rxBytes (off + i) (by
          obtain hzero | hvalid := ha.covered_valid hsl hcovers <;> omega)
      exact h.emit (by rw [hbytes])
    · rfl

theorem Safety.SameVisible.hostReadTx {a b : State} (h : SameVisible a b) (off n : Nat) :
    SameOutcome (hostReadTx off n a) (hostReadTx off n b) := by
  unfold Machine.hostReadTx
  rw [← h.cfg, ← h.txLen]
  split
  · rfl
  · split
    · next hvalid =>
      have hbytes : Memory.readBytes a.txBuf off n = Memory.readBytes b.txBuf off n :=
        readBytes_congr fun i hi => h.txBytes (off + i) (by omega)
      exact h.emit (by rw [hbytes])
    · rfl

theorem Safety.SameVisible.stepInput {a b : State} (h : SameVisible a b) (ha : BlockInv a)
    (hb : BlockInv b) (inp : Input) : SameOutcome (stepInput inp a) (stepInput inp b) := by
  cases inp with
  | request r =>
    simp only [Machine.stepInput]
    split
    · exact h.exec ha hb _
    · exact h.answered _
  | frame bs =>
    simp only [Machine.stepInput]
    split
    · exact h.exec ha hb _
    · exact h.answered _
  | reset => exact h.resetEvent
  | readRx off n => exact h.hostReadRx ha off n
  | readTx off n => exact h.hostReadTx off n

/-- Settles O13: an operation looks at visible elements only, and what it writes it writes from
them; the host's reads stay within the valid bytes. -/
theorem unwrittenElementsAreUnobservable : Obligations.UnwrittenElementsAreUnobservable := by
  unfold Obligations.UnwrittenElementsAreUnobservable
  intro a b ha hb h
  cases hin : a.inputs with
  | nil =>
    rw [step_idle hin, step_idle (h.inputs ▸ hin)]
    exact h
  | cons inp rest =>
    rw [step_of_inputs hin, step_of_inputs (h.inputs ▸ hin)]
    exact (h.withInputs rest).stepInput (ha.withInputs rest) (hb.withInputs rest) inp

end Sys2Proof
end

section
/-! The checksum generator: its step against the bit-by-bit CRC (C7, GK4), and the sequences of R105
and R87. -/

namespace Sys2Proof

open Sys2Proof.Machine Sys2Proof.Safety Sys2Proof.Laws

/-! ### The step is eight shifts of the reflected CRC-16 (C7)

A shift is linear, so eight of them on a word are eight on its high byte, which only move it down,
and eight on its low byte, which R100's parity and two exclusive ors compute. -/

/-- Eight shifts of the reflected CRC-16. -/
def arcByte (c : Half) : Half :=
  arcShift (arcShift (arcShift (arcShift (arcShift (arcShift (arcShift (arcShift c)))))))

theorem arcShift_xor (a b : Half) : arcShift (a ^^^ b) = arcShift a ^^^ arcShift b := by
  simp only [arcShift, BitVec.getLsbD_xor, BitVec.ushiftRight_xor_distrib]
  cases a.getLsbD 0 <;> cases b.getLsbD 0 <;>
    simp only [Bool.false_bne, Bool.true_bne, Bool.not_false, Bool.not_true, if_true, if_false,
      Bool.false_eq_true]
  · rw [BitVec.xor_assoc]
  · ac_rfl
  · calc (a >>> 1) ^^^ (b >>> 1)
        = (a >>> 1) ^^^ (b >>> 1) ^^^ ((0xA001 : Half) ^^^ 0xA001) := by
          rw [BitVec.xor_self, BitVec.xor_zero]
      _ = (a >>> 1) ^^^ 0xA001 ^^^ ((b >>> 1) ^^^ 0xA001) := by ac_rfl

theorem arcByte_xor (a b : Half) : arcByte (a ^^^ b) = arcByte a ^^^ arcByte b := by
  simp only [arcByte, arcShift_xor]

/-- Eight shifts of a high byte move it down. -/
theorem arcByte_high (hi : Byte) : arcByte (hi.setWidth 16 <<< 8) = hi.setWidth 16 := by
  revert hi
  decide +kernel

/-- Eight shifts of a low byte are one checksum step from a cleared accumulator. -/
theorem arcByte_low (lo : Byte) : arcByte (lo.setWidth 16) = crcStep 0 lo := by
  revert lo
  decide +kernel

/-- The high byte of an accumulator, moved down. -/
theorem ushiftRight_eight (crc : Half) : crc >>> 8 = ((crc >>> 8).setWidth 8).setWidth 16 := by
  bv_omega

/-- A word that a byte is added to, as its two bytes. -/
theorem xor_byte_eq_bytes (crc : Half) (b : Byte) :
    crc ^^^ b.setWidth 16
      = (((crc >>> 8).setWidth 8).setWidth 16 <<< 8) ^^^ (b ^^^ crc.setWidth 8).setWidth 16 := by
  apply BitVec.eq_of_getLsbD_eq
  intro i hi
  by_cases hlow : i < 8
  · simp [hlow, hi, Bool.xor_comm]
  · have hbit : 8 + (i - 8) = i := by omega
    have hbyte : i - 8 < 8 := by omega
    simp [hlow, hi, hbit, hbyte]

/-- R100's step moves the high byte down and adds what the low byte gives from a cleared
accumulator. -/
theorem crcStep_eq_high_xor_low (crc : Half) (b : Byte) :
    crcStep crc b = (crc >>> 8) ^^^ crcStep 0 (b ^^^ crc.setWidth 8) := by
  have hlow (x : Byte) : x ^^^ (0 : Half).setWidth 8 = x := BitVec.xor_zero
  have hhigh : (0 : Half) >>> 8 = 0 := rfl
  have hzero (c : Half) : 0 ^^^ c = c := BitVec.zero_xor
  simp only [crcStep, hlow, hhigh]
  split <;> simp only [hzero, BitVec.xor_assoc]

/-- Settles O28: both steps give the high byte, moved down, and the same of the low byte. -/
theorem checksumStepIsReflectedCrc16 : Obligations.ChecksumStepIsReflectedCrc16 := by
  unfold Obligations.ChecksumStepIsReflectedCrc16
  intro crc b
  calc crcStep crc b
      = ((crc >>> 8).setWidth 8).setWidth 16 ^^^ crcStep 0 (b ^^^ crc.setWidth 8) := by
        rw [crcStep_eq_high_xor_low, ← ushiftRight_eight]
    _ = arcByte (crc ^^^ b.setWidth 16) := by
        rw [xor_byte_eq_bytes, arcByte_xor, arcByte_high, arcByte_low]
    _ = arcStep crc b := rfl

/-! ### Sequences of operations (R105, R87) -/

theorem runInstrs_cons_of_next {i : Instr} {p : List Instr} {s t : State} (h : exec i s = .next t) :
    runInstrs (i :: p) s = runInstrs p t := by
  rw [runInstrs, h]

theorem runInstrs_append_of_next {p q : List Instr} {s t : State} (h : runInstrs p s = .next t) :
    runInstrs (p ++ q) s = runInstrs q t := by
  induction p generalizing s with
  | nil => cases h; rfl
  | cons i p ih =>
    obtain ⟨u, r, -, hexec⟩ := exec_effect i s
    rw [runInstrs_cons_of_next hexec] at h
    rw [List.cons_append, runInstrs_cons_of_next hexec, ih h]

/-- What an operation does to the accumulator (R102, R103). -/
def crcAfter (c : Half) : Instr → Half
  | .crcClear => 0
  | .crcByte b => crcStep c b
  | _ => c

theorem crcAfter_of_not_crcOperation (c : Half) {i : Instr} (h : crcOperation i = false) :
    crcAfter c i = c := by
  cases i
  case crcClear | crcByte => cases h
  all_goals rfl

theorem exec_crcAfter (i : Instr) (s : State) :
    ∃ t, exec i s = .next t ∧ t.crc = crcAfter s.crc i := by
  cases hcrc : crcOperation i with
  | false =>
    obtain ⟨u, r, -, hexec⟩ := exec_effect i s
    refine ⟨answered u r, hexec, ?_⟩
    rw [crcAfter_of_not_crcOperation _ hcrc]
    exact (onlyChecksumOperationsWriteCrc i s _ hexec).1 hcrc
  | true =>
    cases i
    case crcClear => exact ⟨_, exec_crcClear s, rfl⟩
    case crcByte b => exact ⟨_, exec_crcByte b s, rfl⟩
    case crcRead => exact ⟨_, exec_crcRead s, rfl⟩
    all_goals cases hcrc

/-- A run of any operations ends, and the accumulator is folded over its CRC_* operations. -/
theorem runInstrs_crcAfter (p : List Instr) (s : State) :
    ∃ t, runInstrs p s = .next t ∧ t.crc = (p.filter crcOperation).foldl crcAfter s.crc := by
  induction p generalizing s with
  | nil => exact ⟨s, rfl, rfl⟩
  | cons i p ih =>
    obtain ⟨u, hexec, hcrc⟩ := exec_crcAfter i s
    obtain ⟨t, hrun, ht⟩ := ih u
    refine ⟨t, (runInstrs_cons_of_next hexec).trans hrun, ?_⟩
    rw [ht, hcrc]
    cases hkind : crcOperation i with
    | true => rw [List.filter_cons_of_pos hkind, List.foldl_cons]
    | false =>
      rw [List.filter_cons_of_neg (by rw [hkind]; decide), crcAfter_of_not_crcOperation _ hkind]

theorem foldl_crcAfter_bytes (bs : List Byte) (c : Half) :
    (bs.map Instr.crcByte).foldl crcAfter c = bs.foldl crcStep c := by
  rw [List.foldl_map]
  rfl

/-- Settles O29: only the CRC_* operations of the run reach `crc`, and they fold the checksum. -/
theorem interleavedChecksumSequence : Obligations.InterleavedChecksumSequence := by
  unfold Obligations.InterleavedChecksumSequence
  intro p bs s hfilter
  obtain ⟨t, hrun, hcrc⟩ := runInstrs_crcAfter p s
  rw [hfilter, List.foldl_cons, foldl_crcAfter_bytes] at hcrc
  have hchecksum : t.crc = checksum bs := hcrc
  exact ⟨t, _, hrun, by rw [setWidth_half_toNat, hchecksum], exec_crcRead t⟩

/-- One CRC_BYTE per byte folds the step, and answers `(OK, 0)` each time. -/
theorem runInstrs_crcBytes (bs : List Byte) (s : State) :
    runInstrs (bs.map .crcByte) s = .next { s with
      crc := bs.foldl crcStep s.crc
      outputs := s.outputs ++ List.replicate bs.length (.response (okValue 0)) } := by
  induction bs generalizing s with
  | nil => simp [runInstrs]
  | cons b bs ih =>
    rw [List.map_cons, runInstrs_cons_of_next (exec_crcByte b s), ih]
    simp [List.replicate_succ, answered, State.setCrc]

/-- Settles O30: CRC_CLEAR, the bytes, and CRC_READ, one after the other. -/
theorem checksumPseudoOperation : Obligations.ChecksumPseudoOperation := by
  unfold Obligations.ChecksumPseudoOperation
  intro bs s
  refine ⟨(checksum bs).setWidth 32, setWidth_half_toNat _, ?_⟩
  rw [assemble, checksumProgram, List.cons_append, runInstrs_cons_of_next (exec_crcClear s),
    runInstrs_append_of_next (runInstrs_crcBytes bs _), runInstrs_cons_of_next (exec_crcRead _)]
  simp [runInstrs, answered, State.setCrc, checksum, List.replicate_succ]

end Sys2Proof
end

section
/-! The frame of the layout table (R63): written word by word by TX_SERIALIZE (R111), and read back
from a receive buffer that holds it (R113). -/

namespace Sys2Proof

open Sys2Proof.Machine Sys2Proof.Safety Sys2Proof.Laws

/-! ### Bytes written, read in parts -/

/-- A word within the bytes written at an offset is read back from its place among them. -/
theorem leNat_writeBytes_word {m : Memory} (hwf : Memory.wf m = true) (off : Nat)
    (before after : List Byte) (v : Word) :
    leNat (Memory.writeBytes m off (before ++ (le32 v ++ after))) (off + before.length)
      = v.toNat := by
  have hread := readWord_writeBytes (off := off) (k := before.length)
    (bs := before ++ (le32 v ++ after)) hwf (by simp)
  have hword := leWord_le32 v
  rw [← readWord_toNat, hread]
  simpa [List.getElem_append_right, le32] using congrArg BitVec.toNat hword

/-- Of words written from offset 0 the `k`-th is read at offset `4 * k`. -/
theorem leNat_writeBytes_words {m : Memory} (hwf : Memory.wf m = true) (ws : List Word)
    (after : List Byte) {k : Nat} (hk : k < ws.length) :
    leNat (Memory.writeBytes m 0 (ws.flatMap le32 ++ after)) (4 * k) = ws[k].toNat := by
  have hsplit : ws.flatMap le32 ++ after
      = (ws.take k).flatMap le32 ++ (le32 ws[k] ++ ((ws.drop (k + 1)).flatMap le32 ++ after)) := by
    conv_lhs => rw [← List.take_append_drop k ws, List.drop_eq_getElem_cons hk]
    simp only [List.flatMap_append, List.flatMap_cons, List.append_assoc]
  have hlen : ((ws.take k).flatMap le32).length = 4 * k := by
    simp [List.length_flatMap, Nat.min_eq_left (Nat.le_of_lt hk), Nat.mul_comm]
  have hword := leNat_writeBytes_word hwf 0 ((ws.take k).flatMap le32)
    ((ws.drop (k + 1)).flatMap le32 ++ after) ws[k]
  rwa [← hsplit, Nat.zero_add, hlen] at hword

theorem read_writeBytes_zero {m : Memory} (hwf : Memory.wf m = true) (bs : List Byte) (a : Nat) :
    Memory.read (Memory.writeBytes m 0 bs) a
      = if h : a < bs.length then bs[a] else Memory.read m a := by
  split
  · next h => simpa using read_writeBytes_inside (off := 0) hwf h
  · next h => exact read_writeBytes_outside (.inr (by omega))

/-- The first of the bytes written, read back. -/
theorem readBytes_writeBytes_append {m : Memory} (hwf : Memory.wf m = true) (bs after : List Byte) :
    Memory.readBytes (Memory.writeBytes m 0 (bs ++ after)) 0 bs.length = bs := by
  apply List.ext_getElem (by simp)
  intro k hk hk'
  have hin : k < (bs ++ after).length := by rw [List.length_append]; omega
  rw [readBytes_getElem hk, read_writeBytes_inside hwf hin, List.getElem_append_left hk']

/-- Settles O56: the word written is the only one, and a run of writes leaves the rest. -/
theorem littleEndianWordAccess : Obligations.LittleEndianWordAccess := by
  unfold Obligations.LittleEndianWordAccess
  intro m off v hwf
  refine ⟨readWord_toNat m off, writeBytes_wf off _ hwf, ?_, fun a ha => ?_⟩
  · simpa using leNat_writeBytes_word hwf off [] [] v
  · exact read_writeBytes_outside ha

/-! ### The layout -/

/-- `m` holds from offset 0 the frame latched in `s`, field by field (R63). -/
structure HoldsFrame (m : Memory) (s : State) : Prop where
  preamble : leNat m 0 = commandPreamble.toNat
  size : leNat m 4 = s.txSize.toNat
  dev : leNat m 8 = s.txDev.toNat
  cmd : leNat m 12 = s.txCmd.toNat
  act : leNat m 16 = s.txAct.toNat
  arg1 : leNat m 20 = s.txArg1.toNat
  arg2 : leNat m 24 = s.txArg2.toNat
  payload : ∀ k (h : k < s.txPl.length), Memory.read m (28 + k) = s.txPl[k]
  checked : leNat m (28 + s.txPl.length)
    = (checksum (Memory.readBytes m 0 (28 + s.txPl.length))).toNat

/-- The seven words a frame begins with (R63). -/
def frameWords (s : State) : List Word :=
  [commandPreamble, s.txSize, s.txDev, s.txCmd, s.txAct, s.txArg1, s.txArg2]

theorem frameBytes_eq_words (s : State) :
    frameBytes s = (frameWords s).flatMap le32
      ++ (s.txPl ++ le32 ((checksum (frameBody s)).setWidth 32)) := by
  simp [frameBytes, frameBody, frameWords]

theorem frameWords_length (s : State) : ((frameWords s).flatMap le32).length = 28 := rfl

/-- The bytes of a frame, written from offset 0, are the frame of the layout table. -/
theorem holdsFrame_writeBytes {m : Memory} (hwf : Memory.wf m = true) (s : State) :
    HoldsFrame (Memory.writeBytes m 0 (frameBytes s)) s := by
  have hword (k : Nat) (hk : k < 7) :
      leNat (Memory.writeBytes m 0 (frameBytes s)) (4 * k) = (frameWords s)[k].toNat := by
    rw [frameBytes_eq_words]
    exact leNat_writeBytes_words hwf _ _ hk
  refine ⟨hword 0 (by decide), hword 1 (by decide), hword 2 (by decide), hword 3 (by decide),
    hword 4 (by decide), hword 5 (by decide), hword 6 (by decide), fun k hk => ?payload, ?checked⟩
  case payload =>
    have hin : 28 + k < (frameBytes s).length := by rw [frameBytes_length]; omega
    have hread := read_writeBytes_inside (off := 0) hwf hin
    rw [Nat.zero_add] at hread
    rw [hread]
    simp only [frameBytes_eq_words]
    rw [List.getElem_append_right (by rw [frameWords_length]; omega),
      List.getElem_append_left (by rw [frameWords_length]; omega)]
    simp only [frameWords_length, Nat.add_sub_cancel_left]
  case checked =>
    have hfield := leNat_writeBytes_word hwf 0 (frameBody s) []
      ((checksum (frameBody s)).setWidth 32)
    have hbody := readBytes_writeBytes_append hwf (frameBody s)
      (le32 ((checksum (frameBody s)).setWidth 32))
    rw [frameBody_length] at hfield hbody
    rw [List.append_nil, Nat.zero_add, setWidth_half_toNat] at hfield
    rw [frameBytes, hbody, hfield]

/-- Answering leaves the transmit side alone, so it does not matter which of the two updates comes
first. -/
theorem answered_storeTx (s : State) (frame : List Byte) (r : Response) :
    answered (s.storeTx frame) r = (answered s r).storeTx frame := rfl

/-- Settles O32: what TX_SERIALIZE writes is the layout, and its length is what `size` says. -/
theorem serializeWritesFrameLayout : Obligations.SerializeWritesFrameLayout := by
  unfold Obligations.SerializeWritesFrameLayout
  intro s hinv hbuilt
  have hlen := hinv.frameBytes_length_eq hbuilt
  have hframe := holdsFrame_writeBytes hinv.txCanonical s
  refine ⟨Memory.writeBytes s.txBuf 0 (frameBytes s),
    lengthValue Config.serializeLengthBeyondWord (frameBytes s).length, ?next, fun hlt => ?value,
    hlen.symm.trans (frameBytes_length s), hframe.preamble, hframe.size, hframe.dev, hframe.cmd,
    hframe.act, hframe.arg1, hframe.arg2, hframe.payload, ?checked, fun a ha => ?beyond⟩
  case next =>
    rw [exec_txSerialize_built hbuilt, answered_storeTx, State.storeTx, answered_txBuf, ← hlen]
  case value => rw [hlen, lengthValue_of_lt _ hlt, u32_toNat hlt]
  case checked =>
    rw [← readBytes_zero_eq_map]
    exact hframe.checked
  case beyond => exact read_writeBytes_outside (.inr (by rw [frameBytes_length]; omega))

/-! ### A received frame, read back (R113) -/

theorem rxWord_of_field {w : State} {off : Nat} {v : Word} (h : leNat w.rxBuf off = v.toNat) :
    rxWord w off = v :=
  BitVec.eq_of_toNat_eq ((rxWord_toNat w off).trans h)

section received
variable {w s : State} (hframe : HoldsFrame w.rxBuf s) (hclass : w.rxClass = .command)
  (hlen : w.rxLen = 32 + s.txPl.length)
include hframe hclass hlen

theorem received_cmdCommand : exec .cmdCommand w = .next (answered w (okValue s.txCmd)) := by
  rw [← rxWord_of_field hframe.cmd]
  exact finish_ok (commandField_ok hclass (by omega))

theorem received_cmdAction : exec .cmdAction w = .next (answered w (okValue s.txAct)) := by
  rw [← rxWord_of_field hframe.act]
  exact finish_ok (commandField_ok hclass (by omega))

theorem received_cmdDeviceId : exec .cmdDeviceId w = .next (answered w (okValue s.txDev)) := by
  rw [← rxWord_of_field hframe.dev]
  exact finish_ok (commandField_ok hclass (by omega))

variable (hsize : s.txSize.toNat = 24 + s.txPl.length)
include hsize

theorem received_cmdPayload :
    exec .cmdPayload w = respondSlice w (u32 s.txPl.length) 28 s.txPl.length := by
  rw [exec_cmdPayload_of_header hclass (by omega)]
  exact payloadSlice_whole (hframe.size.trans hsize) (by omega)

theorem received_rxVerify : exec .rxVerify w = .next (answered w (okValue 1)) := by
  have hfield : leNat w.rxBuf 4 = 24 + s.txPl.length := hframe.size.trans hsize
  have hend : 4 + (24 + s.txPl.length) = 28 + s.txPl.length := by omega
  rw [exec_rxVerify_whole (.inl hclass) (by omega) (by omega) (by omega), hfield, hend,
    if_pos hframe.checked]

end received

/-- A buffer loaded with the bytes of a frame holds the frame, and its class is COMMAND. -/
theorem holdsFrame_loadRx {u s : State} (hwf : Memory.wf u.rxBuf = true) {frame : List Byte}
    (hbytes : frame = frameBytes s) :
    HoldsFrame (u.loadRx frame).rxBuf s ∧ (u.loadRx frame).rxClass = .command := by
  have hframe := holdsFrame_writeBytes hwf s
  rw [← hbytes] at hframe
  have hlen : 4 ≤ frame.length := by rw [hbytes, frameBytes_length]; omega
  rw [loadRx_rxBuf, loadRx_rxClass, classify_by_preamble _ hlen, hframe.preamble]
  exact ⟨hframe, rfl⟩

/-- The valid bytes of TX after TX_SERIALIZE are the frame's. -/
theorem Safety.BlockInv.bytes_of_storeTx {t : State} (h : BlockInv t) (frame : List Byte) :
    (List.range (t.storeTx frame).txLen).map (Memory.read (t.storeTx frame).txBuf) = frame := by
  rw [← readBytes_zero_eq_map, storeTx_txBuf, storeTx_txLen]
  exact readBytes_writeBytes 0 frame h.txCanonical

/-- A built frame, serialised and loaded, is held by RX as a COMMAND frame. -/
theorem serialized_then_loaded {t : State} (hinv : BlockInv t) (hbuilt : t.txBuilt = true)
    (hroom : 32 + t.txPl.length ≤ t.cfg.rxBufBytes) :
    ∃ u w, exec .txSerialize t = .next u
      ∧ u.txLen = 32 + t.txPl.length
      ∧ exec (.rxLoad ((List.range u.txLen).map (Memory.read u.txBuf))) u = .next w
      ∧ HoldsFrame w.rxBuf t ∧ w.rxClass = .command ∧ w.rxLen = 32 + t.txPl.length := by
  have hlen := frameBytes_length t
  have hserialize := exec_txSerialize_built hbuilt
  generalize hbytes : frameBytes t = frame at hlen hserialize
  generalize okValue (lengthValue Config.serializeLengthBeyondWord frame.length) = r at hserialize
  obtain ⟨hframe, hclass⟩ :=
    holdsFrame_loadRx (u := answered (t.storeTx frame) r) hinv.rxCanonical hbytes.symm
  refine ⟨_, answered ((answered (t.storeTx frame) r).loadRx frame)
    (okValue FrameClass.command.code), hserialize, hlen, ?load, hframe, hclass, hlen⟩
  case load =>
    rw [answered_txLen, answered_txBuf, hinv.bytes_of_storeTx, exec_loads _ rfl,
      loadBuffer_fits (by rw [hlen]; exact hroom), hclass]

/-- Settles O35: TX_BUILD latches the frame, TX_SERIALIZE leaves its bytes in TX, and the RX_LOAD of
them makes RX hold it, where each accessor finds its field. -/
theorem marshalledFrameReadsBack : Obligations.MarshalledFrameReadsBack := by
  unfold Obligations.MarshalledFrameReadsBack
  intro s dev cmd act arg1 arg2 payload hinv hfits hroom hword
  have hbuild := exec_txBuild_fits dev cmd act arg1 arg2 hfits
  have hinv' := hinv.latchTx dev cmd act arg1 arg2 hfits
  have hsize := u32_toNat (n := 24 + (keptPayload act payload).length) (by omega)
  generalize keptPayload act payload = pl at *
  obtain ⟨u, w, hserialize, hlen, hload, hframe, hclass, hrxLen⟩ :=
    serialized_then_loaded (hinv'.emit (.response (okValue (u32 (24 + pl.length))))) rfl hroom
  exact ⟨_, u, w, u32 pl.length, _, hbuild, hserialize, hlen, hload,
    exec_rxClassify_of_class hclass,
    received_cmdCommand hframe hclass hrxLen, received_cmdAction hframe hclass hrxLen,
    received_cmdDeviceId hframe hclass hrxLen, u32_toNat (by omega),
    received_cmdPayload hframe hclass hrxLen hsize, hframe.payload,
    received_rxVerify hframe hclass hrxLen hsize⟩

/-! ### The wire-frame rows (R61, log 4) -/

theorem classOfBytes_commandMark (rest : List Byte) :
    classOfBytes (commandMark ++ rest) = .command := by
  simp [classOfBytes, commandMark]

theorem classOfBytes_telemetryMark (rest : List Byte) :
    classOfBytes (telemetryMark ++ rest) = .telemetry := by
  simp [classOfBytes, telemetryMark, commandMark]

/-- A load of bytes that begin with a mark of four holds them and answers their class. -/
theorem exec_load_marked {i : Instr} {s : State} {mark rest : List Byte} {c : FrameClass}
    (hload : loadedBytes i = some (mark ++ rest)) (hmark : mark.length = 4)
    (hclass : classOfBytes (mark ++ rest) = c) (hfits : 4 + rest.length ≤ s.cfg.rxBufBytes)
    (hwf : Memory.wf s.rxBuf = true) :
    ∃ buf, exec i s = .next { answered s (okValue c.code) with
        rxBuf := buf, rxLen := 4 + rest.length, rxPresent := true, rxClass := c, slices := [] }
      ∧ ∀ a, Memory.read buf a = if h : a < 4 + rest.length
          then (mark ++ rest)[a]'(by rw [List.length_append]; omega)
          else Memory.read s.rxBuf a := by
  have hlen : (mark ++ rest).length = 4 + rest.length := by rw [List.length_append, hmark]
  refine ⟨Memory.writeBytes s.rxBuf 0 (mark ++ rest), ?_, fun a => ?_⟩
  · rw [exec_loads s hload, loadBuffer_fits (hlen ▸ hfits), loadRx_rxClass, classify_loaded hwf,
      answered_loadRx, State.loadRx, answered_rxBuf, classify_loaded hwf, hclass, hlen]
  · rw [read_writeBytes_zero hwf]
    simp only [hlen]

/-- Settles O38: a load of bytes that begin with the family's mark. -/
theorem wireFrameRowsLoadTheirFamily : Obligations.WireFrameRowsLoadTheirFamily := by
  unfold Obligations.WireFrameRowsLoadTheirFamily
  intro s rest hfits hwf
  exact ⟨exec_load_marked rfl rfl (classOfBytes_commandMark rest) hfits hwf,
    exec_load_marked rfl rfl (classOfBytes_telemetryMark rest) hfits hwf⟩

end Sys2Proof
end

section
/-! The host's reads of the two buffers (R32, R46, R187, R194, R196). -/

namespace Sys2Proof

open Sys2Proof.Machine Sys2Proof.Safety Sys2Proof.Laws

/-! ### Reads of RX -/

theorem slice_covers {sl : Slice} {off n : Nat} (hlo : sl.off ≤ off)
    (hhi : off + n ≤ sl.off + sl.len) : sl.covers off n = true := by
  simp only [Slice.covers, hlo, hhi, decide_true, Bool.and_self]

/-- A read that a held slice covers gives its bytes. -/
theorem hostReadRx_covered {s : State} {sl : Slice} {off n : Nat} (hinv : BlockInv s)
    (hheld : sl ∈ s.slices) (hcovers : sl.covers off n = true) :
    hostReadRx off n s = .next (s.emit (.bytes (Memory.readBytes s.rxBuf off n))) := by
  have hspace : ¬ (0 < n ∧ off + n > s.cfg.rxBufBytes) := by
    have hfits := hinv.rxLenFits
    obtain hzero | hvalid := hinv.covered_valid hheld hcovers <;> omega
  rw [hostReadRx, if_neg hspace, if_pos (List.any_eq_true.2 ⟨sl, hheld, hcovers⟩)]

/-- With no slice held a read of RX gives nothing (R196). -/
theorem hostReadRx_without_slices {s : State} (h : s.slices = []) (off n : Nat) (u : State) :
    hostReadRx off n s ≠ .next u := by
  rw [hostReadRx, h]
  split
  · exact nofun
  · exact nofun

theorem step_readRx_without_slices {s : State} {off n : Nat} {rest : List Input}
    (hin : s.inputs = .readRx off n :: rest) (h : s.slices = []) (u : State) :
    step s ≠ .next u := by
  rw [step_of_inputs hin]
  exact hostReadRx_without_slices (s := { s with inputs := rest }) h off n u

/-- Settles O53: the slice held covers the read, and lies in the buffer's space. -/
theorem heldSliceCanBeRead : Obligations.HeldSliceCanBeRead := by
  unfold Obligations.HeldSliceCanBeRead
  intro s sl off n rest hinv hheld hlo hhi hin
  rw [step_of_inputs hin, stepInput,
    hostReadRx_covered (hinv.withInputs rest) hheld (slice_covers hlo hhi), readBytes_eq_map]
  rfl

theorem slices_after_load_or_release {i : Instr} {s t : State} (h : loadsOrReleases i = true)
    (hexec : exec i s = .next t) : t.slices = [] := by
  obtain rfl | ⟨bs, hload⟩ := loads_or_release h
  · rw [exec_rxRelease] at hexec
    cases hexec
    rfl
  · rw [exec_loads s hload] at hexec
    obtain hfits | hlong := le_or_gt bs.length s.cfg.rxBufBytes
    · rw [loadBuffer_fits hfits] at hexec
      cases hexec
      rfl
    · rw [loadBuffer_oversized hlong] at hexec
      cases hexec
      rfl

/-- Settles O54: no effect but a load's and RX_RELEASE's takes a slice away; those and the reset
leave none, and with none every read of RX stops. -/
theorem slicesLastUntilLoadReleaseOrReset : Obligations.SlicesLastUntilLoadReleaseOrReset := by
  unfold Obligations.SlicesLastUntilLoadReleaseOrReset
  refine ⟨fun i s t hkeeps hexec sl hheld => ?kept, fun i s t u off n rest hends hexec => ?ended,
    fun s t u off n before rest hin hstep => ?reset⟩
  case kept =>
    obtain ⟨v, r, heffect, rfl⟩ := effect_of_exec hexec
    cases heffect with
    | slice => exact (mem_grant s _ sl).2 (.inr hheld)
    | load hload | overflow hload =>
      exact absurd (hkeeps.symm.trans (loadsOrReleases_of_loadedBytes hload)) Bool.false_ne_true
    | release => cases hkeeps
    | value | clear | byte | latch | discard | unbuilt | store => exact hheld
  case ended =>
    have hnone := slices_after_load_or_release hends hexec
    exact step_readRx_without_slices (s := { t with inputs := .readRx off n :: rest }) rfl hnone u
  case reset =>
    rw [step_of_reset hin] at hstep
    cases hstep
    exact step_readRx_without_slices rfl rfl u

/-! ### Reads of TX -/

/-- The valid bytes of TX lie in its space (R40). -/
theorem Safety.BlockInv.txLen_le_capacity {s : State} (h : BlockInv s) {c : Nat}
    (hc : txCapacity s.cfg = some c) : s.txLen ≤ c := by
  obtain hlen | ⟨hbuilt, hlen⟩ := h.txLen_of_built
  · omega
  · rw [hlen, ← h.frameBytes_length_eq hbuilt]
    exact h.frameBytes_fits hbuilt hc

theorem leavesSpace_eq_false {capacity : Option Nat} {off n : Nat}
    (h : ∀ c, capacity = some c → off + n ≤ c) : leavesSpace capacity off n = false := by
  cases capacity with
  | none => rfl
  | some c =>
    have hle := h c rfl
    simp only [leavesSpace, Bool.and_eq_false_iff, decide_eq_false_iff_not]
    omega

theorem hostReadTx_valid {s : State} {off n : Nat} (hinv : BlockInv s) (h : off + n ≤ s.txLen) :
    hostReadTx off n s = .next (s.emit (.bytes (Memory.readBytes s.txBuf off n))) := by
  have hspace : leavesSpace (txCapacity s.cfg) off n = false :=
    leavesSpace_eq_false fun c hc => h.trans (hinv.txLen_le_capacity hc)
  rw [hostReadTx, hspace, if_neg Bool.false_ne_true, if_pos h]

theorem hostReadTx_beyond {s : State} {off n : Nat} (h : s.txLen < off + n) (u : State) :
    hostReadTx off n s ≠ .next u := by
  rw [hostReadTx, if_neg (Nat.not_le.2 h)]
  split
  · exact nofun
  · exact nofun

/-- Settles O55: a read below `tx_len` lies in the space, and one beyond it faults or is refused. -/
theorem hostReadsValidTransmitBytesOnly : Obligations.HostReadsValidTransmitBytesOnly := by
  unfold Obligations.HostReadsValidTransmitBytesOnly
  intro s off n rest hinv hin
  rw [step_of_inputs hin, stepInput]
  refine ⟨fun hvalid => ?valid, fun hbeyond => hostReadTx_beyond hbeyond⟩
  case valid =>
    rw [hostReadTx_valid (hinv.withInputs rest) hvalid, readBytes_eq_map]
    rfl

end Sys2Proof
end
